-- ==== Sys2Proof/Word.lean ====
section
/-! DEFINITION. The words the P60's links carry: bytes, two-byte and four-byte fields (R205). -/

namespace Sys2Proof

/-- One byte of a frame. -/
abbrev Byte := BitVec 8

/-- A two-byte field: order ids, speeds, record counts (R205). -/
abbrev Half := BitVec 16

/-- A four-byte field: distances, periods, serials, and a reading of the P60's clock (R16, R205). -/
abbrev Word := BitVec 32

end Sys2Proof
end

