-- ==== Sys2Proof/Syntax.lean ====
section
/-! DEFINITION. The commands of the P60: one constructor per row of spec/opcode_table.json, in the
table's order, with the operands the rules give them. A request carries its frame's TAG and its
operands as R205 sizes them, unchecked: the ranges are the request's own rule to judge. -/

namespace Sys2Proof

/-- A transporter slot. Slot number 1..6 of the manual is this index plus one. -/
abbrev SlotId := Fin 6

/-- A traction feeder. Feeder number 1..4 of the manual is this index plus one. -/
abbrev FeederId := Fin 4

/-- A transporter's identity: maker code and serial (00_scope.md, Terms). -/
structure Identity where
  maker : Byte
  serial : Word
  deriving DecidableEq, Repr

/-- A point as a message gives it: a section and an offset from its A end (R5, R160). -/
structure Point where
  sec : Byte
  off : Word
  deriving DecidableEq, Repr

/-- The point (0, 0) (R167). -/
def Point.zero : Point := ⟨0, 0⟩

/-- Direction of travel in a POSITION report (R106, R160). -/
inductive Direction where
  | forward
  | backward
  deriving DecidableEq, Repr

/-- The contents of POSITION (R160). -/
structure PositionReport where
  front : Point
  rear : Point
  direction : Direction
  speed : Half
  standstill : Bool
  deriving DecidableEq, Repr

/-- The contents of ANNOUNCE (R160). -/
structure Announcement where
  ident : Identity
  model : Byte
  revision : Byte
  cls : Byte
  length : Word
  ladenSpeed : Half
  ladenDecel : Half
  unladenSpeed : Half
  unladenDecel : Half
  loadPresent : Bool
  front : Point
  rear : Point
  deriving DecidableEq, Repr

/-- The three links (00_scope.md). -/
inductive Link where
  | operations
  | transporter
  | field
  deriving DecidableEq, Repr

/-- What a detector reports (R31, R200). -/
inductive DetectorValue where
  | clear
  | occupied
  deriving DecidableEq, Repr

/-- What a turnout machine reports (R46, R200). -/
inductive TurnoutValue where
  | normal
  | reverse
  | moving
  | noDetection
  deriving DecidableEq, Repr

/-- What a pad clamp interface reports (R140, R200). -/
inductive ClampValue where
  | locked
  | unlocked
  | fault
  deriving DecidableEq, Repr

/-- The selector of QUERY_PLAN (R14). `other` is a selector value that is none of the four. -/
inductive PlanSelector where
  | summary
  | sec (n : Byte)
  | turnout (n : Byte)
  | pad (n : Byte)
  | other (code : Byte)
  deriving DecidableEq, Repr

/-- A list position (R64). `other` is a position form that is none of the three. -/
inductive Position where
  | head
  | tail
  | after (id : Half)
  | other (form : Byte)
  deriving DecidableEq, Repr

/-- One order description of INSERT_ORDERS, as sent (R65). -/
structure OrderDesc where
  id : Half
  kind : Byte
  slot : Byte
  telescope : Byte
  pad : Byte
  route : List Byte
  deriving DecidableEq, Repr

/-- The location of PLACE_TELESCOPE (R155). `other` is a form that is none of the three. -/
inductive PlaceTarget where
  | pad (n : Byte)
  | transporter (n : Byte)
  | unplaced
  | other (form : Byte)
  deriving DecidableEq, Repr

/-- An entry of the acceptance list: a value for each selected field (R166). -/
structure AcceptEntry where
  maker : Option Byte
  model : Option Byte
  revision : Option Byte
  deriving DecidableEq, Repr

/-- The places of a peer's messages (R161). -/
inductive PlaceName where
  | bind
  | motion
  | docking
  | standDown
  | poll
  deriving DecidableEq, Repr

/-- The commands, one per row of the table. -/
inductive Instr where
  | powerOn
  | restartReset
  | requestArrival (tag kind : Byte) (payload : List Byte)
  | corruptFrame (link : Link) (bytes : List Byte)
  | interByteTimeout (link : Link)
  | malformedRequest (tag kind : Byte) (payload : List Byte)
  | identify (tag : Byte)
  | queryAttention (tag : Byte)
  | restart (tag : Byte)
  | restartReplySent
  | keepalive (tag : Byte)
  | armSilence (tag : Byte) (period : Word)
  | queryField (tag address : Byte)
  | planBegin (tag : Byte) (count : Half) (crc id : Word)
  | planRecord (tag : Byte) (bytes : List Byte)
  | planCommit (tag : Byte)
  | queryPlan (tag : Byte) (selector : PlanSelector)
  | possessSection (tag sec : Byte)
  | releaseSection (tag sec : Byte)
  | inhibitSections (tag : Byte) (secs : List Byte)
  | permitSections (tag : Byte) (secs : List Byte)
  | resetSection (tag sec : Byte)
  | querySection (tag sec : Byte)
  | throwTurnout (tag turnout leg : Byte)
  | resetTurnout (tag turnout : Byte)
  | queryTurnout (tag turnout : Byte)
  | insertOrders (tag : Byte) (pos : Position) (batch : List OrderDesc)
  | moveOrder (tag : Byte) (id : Half) (pos : Position)
  | removeOrder (tag : Byte) (id : Half)
  | collectFinished (tag : Byte)
  | cancelOrder (tag : Byte) (id : Half)
  | stopOrder (tag : Byte) (id : Half)
  | resumeOrder (tag : Byte) (id : Half)
  | queryOrder (tag : Byte) (id : Half)
  | listOrders (tag start : Byte)
  | queryWaits (tag : Byte)
  | queryDeadlock (tag : Byte)
  | queryAuthority (tag slot : Byte)
  | queryMotion (tag slot : Byte)
  | lockPad (tag pad : Byte)
  | placeTelescope (tag telescope : Byte) (target : PlaceTarget)
  | queryPad (tag pad : Byte)
  | queryTelescope (tag telescope : Byte)
  | setAcceptance (tag : Byte) (entries : List AcceptEntry)
  | queryAcceptance (tag : Byte)
  | queryRoster (tag : Byte)
  | querySlot (tag slot : Byte)
  | queryStrangers (tag : Byte)
  | releaseSlot (tag slot : Byte)
  | clearSlotFault (tag slot : Byte)
  | setHoldPolicy (tag laden unladen : Byte)
  | resetFeeder (tag feeder : Byte)
  | resetStop (tag : Byte)
  | queryHolds (tag : Byte)
  | nvmWriteComplete
  | attentionRecord
  | scanEnd
  | detectorReport (address tag : Byte) (value : DetectorValue)
  | turnoutReport (address tag : Byte) (value : TurnoutValue)
  | clampReport (address tag : Byte) (value : ClampValue)
  | fieldReplyTimeout
  | fieldPollDue (address : Byte)
  | fieldExchangeBegin
  | announce (a : Announcement)
  | position (ident : Identity) (tag : Byte) (report : PositionReport)
  | ack (ident : Identity) (tag : Byte)
  | busy (ident : Identity) (tag : Byte)
  | lifted (ident : Identity) (tag : Byte)
  | lowered (ident : Identity) (tag : Byte)
  | depart (ident : Identity) (tag : Byte)
  | fault (ident : Identity) (tag code : Byte)
  | strayTransporterMessage (ident : Identity) (tag kind : Byte) (body : List Byte)
  | transporterReplyTimeout (ident : Identity)
  | busyDeferralEnd (ident : Identity) (place : PlaceName)
  | transporterPollDue (ident : Identity)
  | allStopRepeat
  | minimumHoldEnd (sec : Byte)
  | clearingTimerExpiry (sec : Byte)
  | provingTimerExpiry (sec : Byte)
  | entryConfirmationExpiry (sec : Byte)
  | throwTimerExpiry (turnout : Byte)
  | passageOverdue (slot : SlotId)
  | stageTimerExpiry (slot : SlotId)
  | silenceExpiry
  | windHoldAsserted
  | windHoldDeasserted
  | emergencyStopAsserted
  | emergencyStopDeasserted
  | feederOvercurrentAsserted (feeder : FeederId)
  | feederOvercurrentDeasserted (feeder : FeederId)
  | restoreTimerExpiry (feeder : FeederId)
  | fieldFrameNotAReply (address tag kind : Byte) (body : List Byte)
  deriving DecidableEq, Repr

end Sys2Proof
end

