-- ==== Sys2Proof/Decode.lean ====
section
/-! DEFINITION. The command that a word of spec/opcode_table.json spells. No row of the table gives bits
("fixed" and "fields" are empty on all 92), so no word spells one. The frames of the links, which do carry
commands, are read in Machine/Requests.lean and Machine/Receivers.lean. -/

namespace Sys2Proof

/-- The command a table word spells: none, since the table gives no row any bits. -/
def decodeTableWord (_nbits _w : Nat) : Option Instr := none

end Sys2Proof
end

