-- ==== Sys2Proof/Config.lean ====
section
/-! DEFINITION. What an implementation of the P60 fixes, and the values its manual leaves open.
Each is a constant with no body: nothing can evaluate it, so a claim holds whatever it is. -/

namespace Sys2Proof

/-- The firmware level IDENTIFY returns (R198 names two bytes and gives no value).
Free value, log 14. -/
opaque Config.firmwareMajor : Byte

/-- Second byte of the firmware level (R198). Free value, log 14. -/
opaque Config.firmwareMinor : Byte

/-- Where the reservation pass of a POSITION report falls among the report's other effects, for the
n-th such report: 0 before the evaluation, 1 between evaluation and standstill judgement, 2 after
both. R106 and R123 say the two "may be taken in either order". Free value, log 7. -/
opaque Config.passPlace : Nat → Fin 3

end Sys2Proof
end

