-- ==== Sys2Proof/Machine/Bytes.lean ====
section
/-! DEFINITION. Byte order, the two CRCs and the integer arithmetic of the manual. -/

namespace Sys2Proof.Machine

/-- A one-byte field (R205). -/
def b1 (n : Nat) : List Byte := [BitVec.ofNat 8 n]

/-- A two-byte field, high byte first (R205, section 11.6). -/
def b2 (n : Nat) : List Byte := [BitVec.ofNat 8 (n / 256), BitVec.ofNat 8 n]

/-- A four-byte field, high byte first (R205, section 11.6). -/
def b4 (n : Nat) : List Byte :=
  [BitVec.ofNat 8 (n / 16777216), BitVec.ofNat 8 (n / 65536), BitVec.ofNat 8 (n / 256), BitVec.ofNat 8 n]

/-- A signed four-byte field, two's complement (R205). -/
def b4i (d : Int) : List Byte := b4 (BitVec.ofInt 32 d).toNat

/-- Flags a rule gives together: bit 0 for the first (R205). -/
def bFlags (l : List Bool) : List Byte :=
  b1 (l.foldr (fun b n => (if b then 1 else 0) + 2 * n) 0)

/-- A list of varying length: a one-byte count, then its entries (R205). -/
def bList (l : List (List Byte)) : List Byte := b1 l.length ++ l.flatten

/-- The number two bytes spell, high byte first. -/
def n2 (a b : Byte) : Nat := a.toNat * 256 + b.toNat

/-- The number four bytes spell, high byte first. -/
def n4 (a b c d : Byte) : Nat := n2 a b * 65536 + n2 c d

/-- Two bytes as a field. -/
def half (a b : Byte) : Half := BitVec.ofNat 16 (n2 a b)

/-- Four bytes as a field. -/
def word (a b c d : Byte) : Word := BitVec.ofNat 32 (n4 a b c d)

/-- One bit of the CRC-16: generator 1021h, register shifted towards its most significant bit (R192). -/
def crc16Bit (r : BitVec 16) : BitVec 16 := if r.msb then (r <<< 1) ^^^ 0x1021#16 else r <<< 1

/-- One byte of the CRC-16, taken most significant bit first (R192). -/
def crc16Byte (r : BitVec 16) (b : Byte) : BitVec 16 :=
  Nat.repeat crc16Bit 8 (r ^^^ (b.setWidth 16 <<< 8))

/-- The CRC-16 of a frame (R192). -/
def crc16 (bytes : List Byte) : BitVec 16 := bytes.foldl crc16Byte 0xFFFF#16

/-- One bit of the CRC-32 in bit-reversed form, EDB88320h (R10). -/
def crc32Bit (r : BitVec 32) : BitVec 32 :=
  if r.getLsbD 0 then (r >>> 1) ^^^ 0xEDB88320#32 else r >>> 1

/-- One byte of the CRC-32, taken least significant bit first (R10). -/
def crc32Byte (r : BitVec 32) (b : Byte) : BitVec 32 := Nat.repeat crc32Bit 8 (r ^^^ b.setWidth 32)

/-- The CRC-32 of a run of bytes (R10). -/
def crc32 (bytes : List Byte) : Word := bytes.foldl crc32Byte 0xFFFFFFFF#32 ^^^ 0xFFFFFFFF#32

/-- ceil(x / y) (chapter 6). -/
def ceilDiv (x y : Nat) : Nat := (x + y - 1) / y

/-- Rounds a period up to a multiple of 10 ms (00_scope.md, Units). -/
def roundUp10 (x : Nat) : Nat := ceilDiv x 10 * 10

/-- Keeps a number within a range. -/
def clampTo (lo hi x : Nat) : Nat := max lo (min hi x)

/-- One bit of the square root, from the top: the root so far gains `2 ^ k` if its square stays at
most `x`. -/
def isqrtFrom (x : Nat) : Nat → Nat → Nat
  | 0, r => r
  | k + 1, r => isqrtFrom x k (if (r + 2 ^ k) * (r + 2 ^ k) ≤ x then r + 2 ^ k else r)

/-- The floor of the exact square root of an unsigned 32-bit integer (00_scope.md, Terms). -/
def isqrt (x : Nat) : Nat := isqrtFrom x 16 0

end Sys2Proof.Machine
end

