-- ==== Sys2Proof/Machine/State.lean ====
section
/-! DEFINITION. The state of the P60, as plain data, and the machine right after reset. Every type
cites the rule that names it. A slot or feeder is an index (number minus one); sections, turnouts,
pads, telescopes and addresses keep the manual's numbers, as naturals (log 27). -/

namespace Sys2Proof.Machine

/-- How a command can stop with a fault. The spec names none: a refused request leaves the state as it
was and the P60 goes on (log 33). Nobody raises one, which is safe: nothing is assumed of it. -/
inductive Fault where
  deriving DecidableEq, Repr

/-- How a command can be refused a meaning. -/
inductive Refusal where
  /-- Raised by an arm of exec whose command has no meaning yet. Safe: the machine stops. -/
  | notModelled (mnemonic : String)
  deriving DecidableEq, Repr

/-! ## Frames and messages -/

/-- A frame put on a link: TAG, KIND and payload; its bytes are Frame.bytes (R192). -/
structure Frame where
  link : Link
  tag : Byte
  kind : Byte
  payload : List Byte
  deriving DecidableEq, Repr

/-- The legs of a turnout (R45). -/
inductive Leg where
  | normal
  | reverse
  deriving DecidableEq, Repr

/-- Messages the P60 sends to a transporter (R159). -/
inductive PeerMsg where
  | bind (slot : SlotId)
  | poll
  | authority (sec : Nat) (off : Nat) (ceiling : Nat)
  | brake
  | lift
  | lower
  | standDown
  deriving DecidableEq, Repr

/-- Messages the P60 sends to a field unit (R200). -/
inductive FieldMsg where
  | poll
  | throw (leg : Leg)
  | padUnlock
  | padLock
  deriving DecidableEq, Repr

/-! ## Chapter 1: the plan store -/

/-- Kinds of section (R1). -/
inductive SectionKind where
  | plain
  | turnout
  | spur
  deriving DecidableEq, Repr

/-- Ends of a section (R1). -/
inductive SecEnd where
  | a
  | b
  | bNormal
  | bReverse
  deriving DecidableEq, Repr

/-- A neighbour end: a section and one of its ends (R1). -/
structure Join where
  sec : Nat
  fin : SecEnd
  deriving DecidableEq, Repr

/-- A section of the plan (R1). -/
structure PlanSection where
  num : Nat
  kind : SectionKind
  length : Nat
  lineSpeed : Nat
  feeder : FeederId
  detector : Nat
  slack : Nat
  aJoin : Option Join
  bJoin : Option Join
  brJoin : Option Join
  turnout : Nat
  pad : Nat
  deriving DecidableEq, Repr

/-- A turnout of the plan (R3). -/
structure PlanTurnout where
  num : Nat
  sec : Nat
  address : Nat
  deriving DecidableEq, Repr

/-- A pad of the plan (R3). -/
structure PlanPad where
  num : Nat
  spur : Nat
  stopOffset : Nat
  address : Nat
  deriving DecidableEq, Repr

/-- The active plan: its records as received, and what they say (R12). -/
structure Plan where
  records : List (List Byte)
  id : Word
  crc : Word
  sections : List PlanSection
  turnouts : List PlanTurnout
  pads : List PlanPad
  margin : Nat
  deriving DecidableEq, Repr

/-- What PLAN_BEGIN declares (R7, R8). -/
structure LoadHeader where
  count : Nat
  crc : Word
  id : Word
  deriving DecidableEq, Repr

/-- The reasons of a failed commit, one per step (R11). -/
inductive CheckReason where
  | count
  | crc
  | range
  | reference
  | symmetry
  | correspondence
  | custody
  deriving DecidableEq, Repr

/-- The plan's states with what each holds (R6, R8, R11, R14). -/
inductive PlanState where
  | absent
  | loading (header : LoadHeader) (buffer : List (List Byte))
  | active (plan : Plan)
  | invalid (header : LoadHeader) (received : Nat) (reason : CheckReason) (index : Nat)
  deriving DecidableEq, Repr

/-! ## Chapter 2: the reservation table -/

/-- A side of a section: the end a route enters it by (R4, R16). -/
inductive Side where
  | a
  | b
  deriving DecidableEq, Repr

/-- Who holds a section (R16). -/
inductive Owner where
  | slot (k : SlotId)
  | possession
  deriving DecidableEq, Repr

/-- What the record of an owned section holds (R16, R26, R29). -/
structure Holding where
  owner : Owner
  entry : Option Side
  leg : Option Leg
  since : Word
  autoRelease : Bool
  releasePending : Bool
  proving : Option Nat
  deriving DecidableEq, Repr

/-- A section's state with what each holds: it has an owner exactly when it is RESERVED or OCCUPIED
(R17); the entry-confirmation timer runs only in RESERVED (R32) and the clearing timer only in
RELEASING (R27). -/
inductive Occupancy where
  | unproven
  | free
  | reserved (h : Holding) (confirm : Option Nat)
  | occupied (h : Holding)
  | releasing (clearing : Nat)
  | disturbed
  deriving DecidableEq, Repr

/-- A detector's last word (R16). -/
inductive Reading where
  | none
  | clear
  | occupied
  | silent
  deriving DecidableEq, Repr

/-- A section record (R16). -/
structure SectionRec where
  num : Nat
  occ : Occupancy
  inhibit : Bool
  discrepancy : Bool
  reading : Reading
  waiters : List SlotId
  deriving DecidableEq, Repr

/-! ## Chapter 3: turnouts -/

/-- The two throw slots (R51). -/
inductive ThrowSlot where
  | one
  | two
  deriving DecidableEq, Repr

/-- A turnout's state; it holds a throw slot and a running timer exactly while MOVING (R45). -/
inductive TurnoutState where
  | at (leg : Leg)
  | moving (leg : Leg) (slot : ThrowSlot) (timer : Nat)
  | undetected
  | failed
  deriving DecidableEq, Repr

/-- The last word from a turnout machine (R44). -/
inductive TurnoutWord where
  | none
  | report (v : TurnoutValue)
  | silent
  deriving DecidableEq, Repr

/-- A turnout record (R44). -/
structure TurnoutRec where
  num : Nat
  sec : Nat
  state : TurnoutState
  last : TurnoutWord
  retry : Nat
  deriving DecidableEq, Repr

/-! ## Chapter 4: the order list -/

/-- Order kinds (R60). -/
inductive OrderKind where
  | fetch
  | deliver
  | run
  deriving DecidableEq, Repr

/-- Order stages (R62). -/
inductive Stage where
  | setting
  | running
  | waiting
  | stopping
  | held
  | dockArrive
  | dockUnclamp
  | dockLift
  | dockLower
  | dockClamp
  deriving DecidableEq, Repr

/-- Suspension causes, which are the reasons of SUSPENDED orders (R72). -/
inductive Cause where
  | stopped
  | overdue
  | estop
  | silence
  | linkLost
  deriving DecidableEq, Repr

/-- Reasons of FAILED orders (section 4.1, Reasons). -/
inductive FailReason where
  | planChanged
  | routeStart
  | stopOverrun
  | overspeed
  | padTimeout
  | padFault
  | liftTimeout
  | transporterFault
  | slotReleased
  deriving DecidableEq, Repr

/-- Order states with the fields present in each (R60, R61): the stop reason is present only in
ACTIVE, the reason only in SUSPENDED and FAILED. -/
inductive OrderState where
  | queued
  | active (stage : Stage) (stop : Option Cause)
  | suspended (stage : Stage) (reason : Cause)
  | done
  | failed (reason : FailReason)
  | cancelled
  deriving DecidableEq, Repr

/-- An order record (R60). -/
structure Order where
  id : Nat
  kind : OrderKind
  slot : SlotId
  telescope : Nat
  pad : Nat
  route : List Nat
  state : OrderState
  routeIndex : Nat
  interventions : Nat
  promise : Bool
  deriving DecidableEq, Repr

/-! ## Chapter 5: route progress and deadlock -/

/-- Whom a wait is on (R87). -/
inductive WaitOn where
  | slot (k : SlotId)
  | possession
  | none
  deriving DecidableEq, Repr

/-- A slot's wait (R87). -/
structure Wait where
  sec : Nat
  on : WaitOn
  since : Word
  deriving DecidableEq, Repr

/-- How the end of authority is treated (R103, R108). -/
inductive TargetKind where
  | sectionEnd
  | padStop
  deriving DecidableEq, Repr

/-- An end of authority with its target kind (R103). -/
structure Eoa where
  sec : Nat
  off : Nat
  kind : TargetKind
  deriving DecidableEq, Repr

/-- A slot's route progress record (R87), with what R91 and R28 make it remember: the last end of
authority handed under this dispatch or resumption, and the route index of the rear by the last
report that lay on the route (log 19). -/
structure Progress where
  order : Nat
  reach : Nat
  wait : Option Wait
  handed : Option (Option Eoa)
  rearIndex : Nat
  deriving DecidableEq, Repr

/-- The deadlock record (R99). -/
structure Deadlock where
  members : List (SlotId × Nat)
  time : Word
  deriving DecidableEq, Repr

/-! ## Chapter 6: authority -/

/-- Authority states; the end of authority is present in GIVEN and BRAKED (R103). -/
inductive AuthorityState where
  | none
  | given (e : Eoa)
  | braked (e : Eoa)
  deriving DecidableEq, Repr

/-- The basis of an evaluation (R106). -/
inductive Basis where
  | offRoute
  | reversed
  | curve
  deriving DecidableEq, Repr

/-- The last evaluation (R103). -/
structure Evaluation where
  time : Word
  basis : Basis
  d : Int
  ceiling : Nat
  e : Nat
  p : Nat
  t : Nat
  speed : Nat
  targets : Nat
  deriving DecidableEq, Repr

/-- The last intervention (R103). -/
structure Intervention where
  time : Word
  basis : Basis
  d : Int
  p : Nat
  t : Nat
  speed : Nat
  deriving DecidableEq, Repr

/-- A slot's authority record (R103). -/
structure Authority where
  state : AuthorityState
  sentCeiling : Nat
  lastEval : Option Evaluation
  lastIntervention : Option Intervention
  deriving DecidableEq, Repr

/-! ## Chapter 7: motion -/

/-- Slot states, in the order of R138. -/
inductive SlotState where
  | empty
  | idle
  | moving
  | waiting
  | stopping
  | held
  | docking
  | lost
  | conflict
  deriving DecidableEq, Repr

/-- A slot's motion record (R122), with the release ahead pending (R134) and the return to IDLE that
R136 leaves for the next standing report. -/
structure Motion where
  standing : Bool
  resent : Bool
  lastReport : Option Word
  releaseAhead : Bool
  returnDue : Bool
  deriving DecidableEq, Repr

/-- States of the passage timer (R127). -/
inductive TimerState where
  | stopped
  | running
  | paused
  deriving DecidableEq, Repr

/-- Stop causes of the passage timer (R127). -/
inductive StopCause where
  | none
  | overdue
  | suspended
  | finished
  deriving DecidableEq, Repr

/-- A passage taken (R127). -/
structure Passage where
  sec : Nat
  elapsed : Nat
  allowance : Nat
  deriving DecidableEq, Repr

/-- A slot's passage timer (R127). -/
structure PassageTimer where
  state : TimerState
  sec : Nat
  period : Nat
  count : Nat
  cause : StopCause
  last : Option Passage
  deriving DecidableEq, Repr

/-! ## Chapter 8: docking and custody -/

/-- Clamp states (R139). -/
inductive Clamp where
  | locked
  | unlocked
  | unknown
  | fault
  deriving DecidableEq, Repr

/-- A pad record (R139). Holder, promised-to and exposed are views of other state. -/
structure PadRec where
  num : Nat
  clamp : Clamp
  lastReport : Option Word
  deriving DecidableEq, Repr

/-- A telescope's location (R141). -/
inductive Location where
  | pad (n : Nat)
  | transporter (i : Identity)
  | unplaced
  deriving DecidableEq, Repr

/-- The report that ends a docking stage (R143). -/
inductive Awaiting where
  | none
  | unlocked
  | lifted
  | lowered
  | locked
  deriving DecidableEq, Repr

/-- A stage command withheld by the wind hold (R143). -/
inductive CommandDue where
  | none
  | padUnlock
  | lift
  | lower
  deriving DecidableEq, Repr

/-- The stage timer with its remaining time (R143). -/
inductive StageTimer where
  | stopped
  | running (left : Nat)
  | paused (left : Nat)
  deriving DecidableEq, Repr

/-- A slot's docking record (R143); `transmitted` says that the stage's command has had its first
transmission on its link. -/
structure Docking where
  order : Nat
  pad : Nat
  awaiting : Awaiting
  due : CommandDue
  timer : StageTimer
  transmitted : Bool
  deriving DecidableEq, Repr

/-! ## Chapter 9: transporter link and roster -/

/-- A message in its place: its tag, its first transmission made or not, and the remaining time of a
deferral by BUSY (R161, R162). -/
structure Placed where
  msg : PeerMsg
  tag : Byte
  sent : Bool
  deferred : Option Nat
  deriving DecidableEq, Repr

/-- The attempt in flight, with the rest of its 200 ms wait (R161, R162). -/
structure Attempt where
  msg : PeerMsg
  place : PlaceName
  tag : Byte
  wait : Nat
  deriving DecidableEq, Repr

/-- A peer record (R161), with the times R163 and R176 measure from. -/
structure Peer where
  failures : Nat
  attempt : Option Attempt
  bind : Option Placed
  motion : Option Placed
  docking : Option Placed
  standDown : Option Placed
  poll : Option Placed
  lastTag : Byte
  lastPoll : Option Word
  lastReply : Option Word
  deriving DecidableEq, Repr

/-- Applied figures, clamped, with a flag for each that was clamped (R160, R167). -/
structure Figures where
  length : Nat
  ladenSpeed : Nat
  ladenDecel : Nat
  unladenSpeed : Nat
  unladenDecel : Nat
  clamped : List Bool
  deriving DecidableEq, Repr

/-- Causes of a slot's fault flag (R167). -/
inductive FaultCause where
  | transporterFault
  | loadMismatch
  deriving DecidableEq, Repr

/-- Wind policies (section 10.1). -/
inductive HoldPolicy where
  | stopNow
  | atBoundary
  | proceed
  deriving DecidableEq, Repr

/-- All that the blocks keep per slot. The roster's slot record (R167) and peer record (R161), the
overlap (R16), the position in force (R170), and the records of the route setter, the braking and
movement supervisors, the docking sequencer and the hold unit. -/
structure Slot where
  status : SlotState
  ident : Option Identity
  model : Byte
  revision : Byte
  figures : Figures
  reportedLoad : Bool
  announcedFront : Point
  announcedRear : Point
  fault : Option FaultCause
  lastFault : Byte
  peer : Option Peer
  overlap : Option (Nat × Nat)
  front : Point
  rear : Point
  speed : Nat
  progress : Progress
  authority : Authority
  motion : Motion
  timer : PassageTimer
  docking : Docking
  windHold : Option HoldPolicy
  held : Bool
  deriving DecidableEq, Repr

/-- Why a transporter is a stranger (R171). -/
inductive StrangerReason where
  | unaccepted
  | surplus
  deriving DecidableEq, Repr

/-- An entry of the stranger list (R171). -/
structure Stranger where
  ident : Identity
  model : Byte
  revision : Byte
  cls : Byte
  reason : StrangerReason
  listed : Word
  peer : Peer
  deriving DecidableEq, Repr

/-! ## Chapter 10: the hold unit -/

/-- Feeder states (R182). -/
inductive FeederState where
  | enabled
  | tripped
  | restoring (left : Nat)
  | starting (left : Nat)
  | lockout
  deriving DecidableEq, Repr

/-- A feeder: state with its restore timer, input level, trip history and held set (section 10.2). -/
structure Feeder where
  state : FeederState
  input : Bool
  firstTrip : Word
  trips : Nat
  held : List SlotId
  deriving DecidableEq, Repr

/-- States of the silence timer (R188). -/
inductive SilenceState where
  | unarmed
  | armed
  | expired
  deriving DecidableEq, Repr

/-- The silence timer (R188, R190). -/
structure Silence where
  state : SilenceState
  applied : Nat
  pending : Option Nat
  remaining : Nat
  lastKeepalive : Option Word
  deriving DecidableEq, Repr

/-! ## Chapter 11: the ports -/

/-- A request in the request queue (R193). -/
structure Request where
  tag : Byte
  kind : Byte
  payload : List Byte
  deriving DecidableEq, Repr

/-- A record formed on the operations link and not yet transmitted: a reply, or an ATTENTION record,
whose payload is the set as it stands when its transmission begins (R194, R196). -/
inductive TxRecord where
  | reply (r : Request)
  | attention
  deriving DecidableEq, Repr

/-- How far a RESTART has come (R199). -/
inductive RestartPhase where
  | replying
  | stopping
  deriving DecidableEq, Repr

/-- The eight condition kinds, in the order of mask bits 0 to 7 (R195, section 11.6). -/
inductive CondKind where
  | planInvalid
  | unacceptedTransporter
  | surplusTransporter
  | rosterChanged
  | windHold
  | feederTrip
  | feederLockout
  | emergencyStop
  deriving DecidableEq, Repr

/-- The seven event kinds, in the order of mask bits 8 to 14 (R195, section 11.6). -/
inductive EventKind where
  | orderFinished
  | deadlock
  | sectionDisturbed
  | turnoutFailed
  | overdue
  | intervention
  | silenceStop
  deriving DecidableEq, Repr

/-- The counts of the event kinds; 0 is absent (R195). -/
structure Counts where
  orderFinished : Nat
  deadlock : Nat
  sectionDisturbed : Nat
  turnoutFailed : Nat
  overdue : Nat
  intervention : Nat
  silenceStop : Nat
  deriving DecidableEq, Repr

/-- Kinds of field unit (R200). -/
inductive UnitKind where
  | detector
  | turnout
  | pad
  deriving DecidableEq, Repr

/-- What the port keeps of a field unit (R200, R201, R202, R203). -/
structure FieldUnit where
  address : Nat
  kind : UnitKind
  num : Nat
  failures : Nat
  lastReply : Option Word
  lastPoll : Option Word
  dueSince : Option Word
  swept : Bool
  deriving DecidableEq, Repr

/-- The exchange in flight on the field link, with the rest of its 100 ms wait (R200). -/
structure Exchange where
  address : Nat
  msg : FieldMsg
  tag : Byte
  wait : Nat
  sweep : Bool
  deriving DecidableEq, Repr

/-- Sweep states (R201). -/
inductive SweepState where
  | none
  | running
  | done
  deriving DecidableEq, Repr

/-- The ALL_STOP sendings still to come, and the time to the next (R159). -/
structure AllStop where
  left : Nat
  timer : Nat
  deriving DecidableEq, Repr

/-! ## Non-volatile storage -/

/-- A retained plan (R15). -/
structure StoredPlan where
  records : List (List Byte)
  id : Word
  crc : Word
  deriving DecidableEq, Repr

/-- What non-volatile storage holds (00_scope.md, Resets). -/
structure Nvm where
  plan : Option StoredPlan
  inhibits : List Nat
  locations : Vector Location 64
  acceptance : List AcceptEntry
  ladenPolicy : HoldPolicy
  unladenPolicy : HoldPolicy
  deriving DecidableEq, Repr

/-- A write in progress, with what waits on its end (R12, R40, R141, R166, R181). -/
inductive NvmWrite where
  | planCommit (plan : Plan)
  | inhibits (set : List Nat) (changed : Nat)
  | acceptance (entries : List AcceptEntry)
  | policies (laden unladen : HoldPolicy)
  | place (telescope : Nat) (loc : Location)
  | lifted (slot : SlotId) (ident : Identity) (order telescope : Nat)
  | lowered (slot : SlotId) (ident : Identity) (order telescope pad : Nat)
  deriving DecidableEq, Repr

/-! ## The block and the state -/

/-- Everything the P60 keeps, block by block. -/
structure P60 where
  /-- The clock (R16). -/
  clock : Word
  /-- Model's own: draws made of the free value `Config.passPlace` (log 7). -/
  draws : Nat
  /-- Model's own: frames put on the links by the last command (log 24). -/
  out : List Frame
  /-- Model's own: sections owed a hand-over check within this command (log 9). -/
  tasks : List Nat
  /-- Model's own: a scan trigger has been met within this command (log 8). -/
  scanDue : Bool
  nvm : Nvm
  writes : List NvmWrite
  plan : PlanState
  sections : List SectionRec
  turnouts : List TurnoutRec
  throwQueue : List (Nat × Leg)
  orders : List Order
  /-- The dispatcher's scanning flag and the list's scan-hold flag, which change together (R77, R82). -/
  scanning : Bool
  scanPending : Bool
  deadlock : Option Deadlock
  slots : Vector Slot 6
  strangers : List Stranger
  changeSet : Option (List SlotId)
  allStop : Option AllStop
  pads : List PadRec
  windInput : Bool
  ladenPolicy : HoldPolicy
  unladenPolicy : HoldPolicy
  feeders : Vector Feeder 4
  estopInput : Bool
  estop : Bool
  silence : Silence
  requests : List Request
  opsTx : List TxRecord
  restart : Option RestartPhase
  conds : List CondKind
  counts : Counts
  units : List FieldUnit
  exchange : Option Exchange
  fieldTag : Byte
  commands : List (Nat × FieldMsg)
  sweep : SweepState
  opsRx : List Byte
  transporterRx : List Byte
  fieldRx : List Byte
  deriving DecidableEq, Repr

/-- The machine: the P60 and the queue of the commands that wait, first in, first out. -/
structure State where
  pending : List Instr
  p60 : P60
  deriving DecidableEq, Repr

/-! ## Reset values -/

/-- Route progress after reset (R87). -/
def Progress.closed : Progress := ⟨0, 0, none, none, 0⟩

/-- The authority record after reset (R103). -/
def Authority.initial : Authority := ⟨.none, 0, none, none⟩

/-- The motion record of a slot just bound, freed or reset (R122). -/
def Motion.initial : Motion := ⟨false, false, none, false, false⟩

/-- The passage timer after reset (R127). -/
def PassageTimer.initial : PassageTimer := ⟨.stopped, 0, 0, 0, .none, none⟩

/-- The docking record after reset (R143). -/
def Docking.initial : Docking := ⟨0, 0, .none, .none, .stopped, false⟩

/-- The applied figures of an EMPTY slot (R167). -/
def Figures.none : Figures := ⟨0, 0, 0, 0, 0, [false, false, false, false, false]⟩

/-- An EMPTY slot (R167, R177). -/
def Slot.initial : Slot :=
  { status := .empty, ident := none, model := 0, revision := 0, figures := .none, reportedLoad := false,
    announcedFront := .zero, announcedRear := .zero, fault := none, lastFault := 0, peer := none,
    overlap := none, front := .zero, rear := .zero, speed := 0, progress := .closed,
    authority := .initial, motion := .initial, timer := .initial, docking := .initial,
    windHold := none, held := false }

/-- A feeder after reset: TRIPPED if its input is asserted, else STARTING with 1,500 ms (R191). -/
def Feeder.initial (input : Bool) : Feeder :=
  { state := if input then .tripped else .starting 1500, input, firstTrip := 0, trips := 0, held := [] }

/-- Storage at the first power-on (R15, R141, R166, R181). -/
def Nvm.factory : Nvm :=
  { plan := none, inhibits := [], locations := Vector.replicate 64 .unplaced, acceptance := [],
    ladenPolicy := .stopNow, unladenPolicy := .atBoundary }

/-- The P60 right after its first power-on, its input lines deasserted (log 13). -/
def P60.initial : P60 :=
  { clock := 0, draws := 0, out := [], tasks := [], scanDue := false, nvm := .factory, writes := [],
    plan := .absent, sections := [], turnouts := [], throwQueue := [], orders := [], scanning := false,
    scanPending := false, deadlock := none, slots := Vector.replicate 6 .initial, strangers := [],
    changeSet := none, allStop := none, pads := [], windInput := false, ladenPolicy := .stopNow,
    unladenPolicy := .atBoundary, feeders := Vector.replicate 4 (.initial false), estopInput := false,
    estop := false, silence := ⟨.unarmed, 0, none, 0, none⟩, requests := [], opsTx := [],
    restart := none, conds := [], counts := ⟨0, 0, 0, 0, 0, 0, 0⟩, units := [], exchange := none,
    fieldTag := 0, commands := [], sweep := .none, opsRx := [], transporterRx := [], fieldRx := [] }

/-- The machine right after reset: nothing pending, the P60 at its first power-on. -/
def State.reset : State := { pending := [], p60 := .initial }

end Sys2Proof.Machine
end

