-- ==== Sys2Proof/Machine/Ops.lean ====
section
/-! DEFINITION. The named operations over the P60's state that every block uses: reading and updating
one record, the clock, raising attention, handing messages to the links. -/

namespace Sys2Proof.Machine

/-- The manual's number of a slot, 1..6. -/
def slotNo (k : SlotId) : Nat := k.val + 1

/-- The manual's number of a feeder, 1..4. -/
def feederNo (f : FeederId) : Nat := f.val + 1

/-- All slots, in number order. -/
def allSlots : List SlotId := [0, 1, 2, 3, 4, 5]

/-- All feeders, in number order. -/
def allFeeders : List FeederId := [0, 1, 2, 3]

/-! ## Slots -/

def P60.slot (s : P60) (k : SlotId) : Slot := s.slots.get k

def P60.setSlot (s : P60) (k : SlotId) (x : Slot) : P60 := { s with slots := s.slots.set k x }

def P60.updSlot (s : P60) (k : SlotId) (f : Slot → Slot) : P60 := s.setSlot k (f (s.slot k))

/-- A slot is bound from BIND to its freeing (R167, R174). -/
def Slot.bound (x : Slot) : Bool := x.ident.isSome

/-- Slot k's identity is bound here (R165). -/
def P60.slotOf? (s : P60) (i : Identity) : Option SlotId :=
  allSlots.find? (fun k => (s.slot k).ident == some i)

def P60.updProgress (s : P60) (k : SlotId) (f : Progress → Progress) : P60 :=
  s.updSlot k (fun x => { x with progress := f x.progress })

def P60.updAuthority (s : P60) (k : SlotId) (f : Authority → Authority) : P60 :=
  s.updSlot k (fun x => { x with authority := f x.authority })

def P60.updMotion (s : P60) (k : SlotId) (f : Motion → Motion) : P60 :=
  s.updSlot k (fun x => { x with motion := f x.motion })

def P60.updTimer (s : P60) (k : SlotId) (f : PassageTimer → PassageTimer) : P60 :=
  s.updSlot k (fun x => { x with timer := f x.timer })

def P60.updDocking (s : P60) (k : SlotId) (f : Docking → Docking) : P60 :=
  s.updSlot k (fun x => { x with docking := f x.docking })

/-- Standstill of a slot: its standing flag is set (R122). -/
def P60.standing (s : P60) (k : SlotId) : Bool := (s.slot k).motion.standing

/-! ## The clock -/

/-- Milliseconds from clock reading t to the present, modulo 2^32 (R16). -/
def P60.elapsed (s : P60) (t : Word) : Nat := (s.clock - t).toNat

/-- Milliseconds since an event, 0 if there was none. -/
def P60.sinceOr0 (s : P60) : Option Word → Nat
  | none => 0
  | some t => s.elapsed t

/-! ## The plan and the location table -/

/-- The plan while it is ACTIVE (R6). -/
def P60.plan? (s : P60) : Option Plan :=
  match s.plan with
  | .active p => some p
  | _ => none

def Plan.section? (p : Plan) (n : Nat) : Option PlanSection := p.sections.find? (fun x => x.num == n)

def Plan.turnout? (p : Plan) (n : Nat) : Option PlanTurnout := p.turnouts.find? (fun x => x.num == n)

def Plan.pad? (p : Plan) (n : Nat) : Option PlanPad := p.pads.find? (fun x => x.num == n)

def P60.planSection? (s : P60) (n : Nat) : Option PlanSection := s.plan?.bind (·.section? n)

def P60.planPad? (s : P60) (n : Nat) : Option PlanPad := s.plan?.bind (·.pad? n)

/-- The plan's stop margin m (R3), 0 while no plan is ACTIVE (log 53). -/
def P60.margin (s : P60) : Nat := (s.plan?.map (·.margin)).getD 0

/-- Telescope t's entry in the location table (R141). -/
def P60.location (s : P60) (t : Nat) : Location := (s.nvm.locations.toList[t - 1]?).getD .unplaced

def P60.setLocation (s : P60) (t : Nat) (l : Location) : P60 :=
  { s with nvm := { s.nvm with locations := s.nvm.locations.setIfInBounds (t - 1) l } }

/-- All telescopes, in number order (R141). -/
def allTelescopes : List Nat := (List.range 64).map (· + 1)

/-- The telescope recorded at PAD(n): the pad's holder (R139). -/
def P60.holder? (s : P60) (n : Nat) : Option Nat :=
  allTelescopes.find? (fun t => s.location t == .pad n)

/-- An identity carries a telescope by the location table (R141). -/
def P60.carries (s : P60) (i : Identity) : Bool := s.nvm.locations.toList.contains (.transporter i)

/-- A slot is laden while the table records a telescope at its identity (R141). -/
def P60.laden (s : P60) (k : SlotId) : Bool :=
  match (s.slot k).ident with
  | none => false
  | some i => s.carries i

/-- The slot's load agrees: reported present exactly while laden (R142). -/
def P60.loadAgrees (s : P60) (k : SlotId) : Bool := (s.slot k).reportedLoad == s.laden k

/-! ## Sections -/

def Occupancy.holding? : Occupancy → Option Holding
  | .reserved h _ => some h
  | .occupied h => some h
  | _ => none

def Occupancy.owner? (o : Occupancy) : Option Owner := o.holding?.map (·.owner)

/-- Changes what the record of an owned section holds; other states have nothing to change. -/
def Occupancy.mapHolding (f : Holding → Holding) : Occupancy → Occupancy
  | .reserved h c => .reserved (f h) c
  | .occupied h => .occupied (f h)
  | o => o

def P60.section? (s : P60) (n : Nat) : Option SectionRec := s.sections.find? (fun r => r.num == n)

def P60.updSection (s : P60) (n : Nat) (f : SectionRec → SectionRec) : P60 :=
  { s with sections := s.sections.map (fun r => if r.num = n then f r else r) }

def P60.setOcc (s : P60) (n : Nat) (o : Occupancy) : P60 := s.updSection n (fun r => { r with occ := o })

/-- The owner of section n, if it has one (R17). -/
def P60.owner? (s : P60) (n : Nat) : Option Owner := (s.section? n).bind (·.occ.owner?)

/-- Slot k owns section n. -/
def P60.owns (s : P60) (k : SlotId) (n : Nat) : Bool := s.owner? n == some (.slot k)

/-- The sections slot k owns, in number order of the table. -/
def P60.ownedBy (s : P60) (k : SlotId) : List Nat :=
  (s.sections.filter (fun r => r.occ.owner? == some (.slot k))).map (·.num)

/-- Section n is overlapped by slot k (R16). -/
def P60.overlaps (s : P60) (k : SlotId) (n : Nat) : Bool :=
  match (s.slot k).overlap with
  | none => false
  | some (f, r) => f == n || r == n

/-- A feeder's enable output (R182). -/
def P60.outputOn (s : P60) (f : FeederId) : Bool :=
  (s.feeders.get f).state == .enabled && !s.estop

/-- Section n's feeder is enabled (R182). -/
def P60.powered (s : P60) (n : Nat) : Bool :=
  match s.planSection? n with
  | none => false
  | some p => s.outputOn p.feeder

/-! ## Turnouts -/

def P60.turnout? (s : P60) (t : Nat) : Option TurnoutRec := s.turnouts.find? (fun r => r.num == t)

def P60.updTurnout (s : P60) (t : Nat) (f : TurnoutRec → TurnoutRec) : P60 :=
  { s with turnouts := s.turnouts.map (fun r => if r.num = t then f r else r) }

/-- The turnout whose points lie in section n. -/
def P60.turnoutIn? (s : P60) (n : Nat) : Option TurnoutRec := s.turnouts.find? (fun r => r.sec == n)

/-- A turnout is locked while its section has an owner (R44). -/
def P60.locked (s : P60) (r : TurnoutRec) : Bool := (s.owner? r.sec).isSome

/-- Section n's turnout is detected in leg x (R18). -/
def P60.detectedIn (s : P60) (n : Nat) (x : Leg) : Bool :=
  match s.turnoutIn? n with
  | none => false
  | some r => r.state == .at x

/-! ## Orders -/

def Stage.isDocking : Stage → Bool
  | .dockArrive | .dockUnclamp | .dockLift | .dockLower | .dockClamp => true
  | _ => false

/-- ACTIVE or SUSPENDED. -/
def OrderState.live : OrderState → Bool
  | .active _ _ | .suspended _ _ => true
  | _ => false

/-- DONE, FAILED or CANCELLED (R61). -/
def OrderState.finished : OrderState → Bool
  | .done | .failed _ | .cancelled => true
  | _ => false

/-- The stage, present in ACTIVE and SUSPENDED (R60). -/
def OrderState.stage? : OrderState → Option Stage
  | .active g _ | .suspended g _ => some g
  | _ => none

def P60.order? (s : P60) (id : Nat) : Option Order := s.orders.find? (fun o => o.id == id)

def P60.updOrder (s : P60) (id : Nat) (f : Order → Order) : P60 :=
  { s with orders := s.orders.map (fun o => if o.id = id then f o else o) }

def P60.setOrderState (s : P60) (id : Nat) (st : OrderState) : P60 :=
  s.updOrder id (fun o => { o with state := st })

/-- The ACTIVE or SUSPENDED order of slot k; there is at most one (R61). -/
def P60.liveOrder? (s : P60) (k : SlotId) : Option Order :=
  s.orders.find? (fun o => o.slot == k && o.state.live)

/-- The ACTIVE order of slot k with its stage and stop reason. -/
def P60.activeOrder? (s : P60) (k : SlotId) : Option (Order × Stage × Option Cause) :=
  match s.liveOrder? k with
  | some o =>
    match o.state with
    | .active g c => some (o, g, c)
    | _ => none
  | none => none

/-- The stage of slot k's ACTIVE order. -/
def P60.activeStage? (s : P60) (k : SlotId) : Option Stage := (s.activeOrder? k).map (·.2.1)

/-- The order holding pad n's promise: its promised-to field (R139, R76). -/
def P60.promisedTo? (s : P60) (n : Nat) : Option Order :=
  s.orders.find? (fun o => o.pad == n && o.promise)

/-! ## The attention set and the scan -/

def Counts.get (c : Counts) : EventKind → Nat
  | .orderFinished => c.orderFinished
  | .deadlock => c.deadlock
  | .sectionDisturbed => c.sectionDisturbed
  | .turnoutFailed => c.turnoutFailed
  | .overdue => c.overdue
  | .intervention => c.intervention
  | .silenceStop => c.silenceStop

def Counts.set (c : Counts) (n : Nat) : EventKind → Counts
  | .orderFinished => { c with orderFinished := n }
  | .deadlock => { c with deadlock := n }
  | .sectionDisturbed => { c with sectionDisturbed := n }
  | .turnoutFailed => { c with turnoutFailed := n }
  | .overdue => { c with overdue := n }
  | .intervention => { c with intervention := n }
  | .silenceStop => { c with silenceStop := n }

/-- Raises an event kind: its count rises by one and stays at 255; from absence it is a gain, which
forms one ATTENTION record (R195, R196). -/
def P60.raise (s : P60) (e : EventKind) : P60 :=
  { s with
    counts := s.counts.set (min 255 (s.counts.get e + 1)) e
    opsTx := if s.counts.get e = 0 then s.opsTx ++ [.attention] else s.opsTx }

/-- A scan trigger reaches the dispatcher (R82): the scan is taken at the end of the command (log 8), and a second
trigger of one command, which would meet that scan, sets scan-pending. -/
def P60.trigger (s : P60) : P60 := { s with scanPending := s.scanPending || s.scanDue, scanDue := true }

/-- A hand-over check on section n is owed (R23, R24; log 9). -/
def P60.oweCheck (s : P60) (n : Nat) : P60 := { s with tasks := s.tasks ++ [n] }

/-! ## The transporter link -/

/-- Tags run 1..255, counting on from the last and passing over 0 (R161, R200). -/
def nextTag (b : Byte) : Byte := if b = 255 then 1 else b + 1

/-- The payload's opening identity (R192). -/
def identBytes (i : Identity) : List Byte := [i.maker] ++ b4 i.serial.toNat

/-- Message kind codes of the transporter link, from the P60 (section 11.6). -/
def PeerMsg.code : PeerMsg → Nat
  | .bind _ => 0x01
  | .poll => 0x02
  | .authority _ _ _ => 0x03
  | .brake => 0x04
  | .lift => 0x05
  | .lower => 0x06
  | .standDown => 0x07

/-- The contents after the identity (R159, R205). -/
def PeerMsg.body : PeerMsg → List Byte
  | .bind k => b1 (slotNo k)
  | .authority n off c => b1 n ++ b4 off ++ b2 c
  | _ => []

def peerFrame (i : Identity) (tag : Byte) (m : PeerMsg) : Frame :=
  ⟨.transporter, tag, BitVec.ofNat 8 m.code, identBytes i ++ m.body⟩

/-- ALL_STOP: broadcast, with identity 0 and tag 0 (R159). -/
def allStopFrame : Frame := ⟨.transporter, 0, 0x08, identBytes ⟨0, 0⟩⟩

/-- The bytes of a frame: SYNC, LEN, TAG, KIND, the payload, and the CRC-16 of LEN to the payload's end, high
byte first (R192, section 11.6). -/
def Frame.bytes (f : Frame) : List Byte :=
  let body := BitVec.ofNat 8 (f.payload.length + 2) :: f.tag :: f.kind :: f.payload
  (0xC5 : Byte) :: body ++ b2 (crc16 body).toNat

/-- The bytes that the last command put on a link: its frames whole, one after another (R192, log 24). -/
def P60.sent (s : P60) (link : Link) : List Byte := (s.out.filter (·.link == link)).flatMap Frame.bytes

/-- Puts a frame on its link. -/
def P60.send (s : P60) (f : Frame) : P60 := { s with out := s.out ++ [f] }

def Peer.get (p : Peer) : PlaceName → Option Placed
  | .bind => p.bind
  | .motion => p.motion
  | .docking => p.docking
  | .standDown => p.standDown
  | .poll => p.poll

def Peer.set (p : Peer) (x : Option Placed) : PlaceName → Peer
  | .bind => { p with bind := x }
  | .motion => { p with motion := x }
  | .docking => { p with docking := x }
  | .standDown => { p with standDown := x }
  | .poll => { p with poll := x }

/-- A new peer record: last tag 0, nothing in flight, every place empty (R161). -/
def Peer.fresh : Peer := ⟨0, none, none, none, none, none, none, 0, none, none⟩

/-- A message enters a place, or takes the place of the one there, with a fresh tag (R161). -/
def Peer.put (p : Peer) (place : PlaceName) (m : PeerMsg) : Peer :=
  { p.set (some ⟨m, nextTag p.lastTag, false, none⟩) place with lastTag := nextTag p.lastTag }

/-- A message sent once with a fresh tag, no reply awaited (R164, R171; for R175 log 61). -/
def P60.sendOnce (s : P60) (i : Identity) (p : Peer) (m : PeerMsg) : P60 :=
  s.send (peerFrame i (nextTag p.lastTag) m)

/-- Hands the link a message for a bound slot. For a LOST slot a BRAKE is transmitted once and an
AUTHORITY, LIFT or LOWER is discarded (R161, R164). -/
def P60.hand (s : P60) (k : SlotId) (place : PlaceName) (m : PeerMsg) : P60 :=
  match (s.slot k).ident, (s.slot k).peer with
  | some i, some p =>
    if (s.slot k).status = .lost then
      if m = .brake then
        (s.sendOnce i p m).updSlot k (fun x => { x with peer := some { p with lastTag := nextTag p.lastTag } })
      else s
    else s.updSlot k (fun x => { x with peer := some (p.put place m) })
  | _, _ => s

/-! ## The field link -/

def P60.unit? (s : P60) (a : Nat) : Option FieldUnit := s.units.find? (fun u => u.address == a)

def P60.updUnit (s : P60) (a : Nat) (f : FieldUnit → FieldUnit) : P60 :=
  { s with units := s.units.map (fun u => if u.address = a then f u else u) }

/-- A unit is silent while its failure count is 3 (R202). -/
def FieldUnit.silent (u : FieldUnit) : Bool := u.failures == 3

/-- The field address of the unit of this kind and number (R3). -/
def P60.addressOf? (s : P60) (kind : UnitKind) (n : Nat) : Option Nat :=
  (s.units.find? (fun u => u.kind == kind && u.num == n)).map (·.address)

/-- A message joins the command queue: it replaces the message of the unit's unsent entry, which keeps
its place, or joins the tail; an out-of-cycle POLL is not queued beside an unsent entry (R200). -/
def P60.command (s : P60) (a : Nat) (m : FieldMsg) : P60 :=
  if s.commands.any (fun e => e.1 == a) then
    if m = .poll then s
    else { s with commands := s.commands.map (fun e => if e.1 = a then (a, m) else e) }
  else { s with commands := s.commands ++ [(a, m)] }

/-- Hands the field link port a message for the unit of this kind and number. -/
def P60.commandTo (s : P60) (kind : UnitKind) (n : Nat) (m : FieldMsg) : P60 :=
  match s.addressOf? kind n with
  | none => s
  | some a => s.command a m

end Sys2Proof.Machine
end

