-- ==== Sys2Proof/Machine/Operands.lean ====
section
/-! DEFINITION. Operands of requests: result codes, ranges of numbers, and the codes of named values
(R37, R48, R153, R205, section 11.6). -/

namespace Sys2Proof.Machine

/-- Result codes (section 11.6). -/
inductive Result where
  | ok
  | busy
  | listHeld
  | listFull
  | duplicateId
  | unknownId
  | outOfRange
  | notInPlan
  | badState
  | locked
  | planNotActive
  | routeInvalid
  | padPromised
  | planCheckFailed
  | malformed
  deriving DecidableEq, Repr

def Result.code : Result → Nat
  | .ok => 0x00
  | .busy => 0x01
  | .listHeld => 0x02
  | .listFull => 0x03
  | .duplicateId => 0x04
  | .unknownId => 0x05
  | .outOfRange => 0x06
  | .notInPlan => 0x07
  | .badState => 0x08
  | .locked => 0x09
  | .planNotActive => 0x0A
  | .routeInvalid => 0x0B
  | .padPromised => 0x0C
  | .planCheckFailed => 0x0D
  | .malformed => 0x0E

/-- What a request's rule decides: the result and the fields that follow it (R194). -/
structure Answer where
  result : Result
  fields : List Byte
  deriving DecidableEq, Repr

/-- A refusal that names no field. -/
def Answer.refuse (r : Result) : Answer := ⟨r, []⟩

/-- OK with fields. -/
def Answer.ok (fields : List Byte) : Answer := ⟨.ok, fields⟩

/-- A slot operand 1..6. -/
def slotOf (b : Byte) : Option SlotId :=
  if h : 1 ≤ b.toNat ∧ b.toNat ≤ 6 then some ⟨b.toNat - 1, by omega⟩ else none

/-- A feeder operand 1..4. -/
def feederOf (b : Byte) : Option FeederId :=
  if h : 1 ≤ b.toNat ∧ b.toNat ≤ 4 then some ⟨b.toNat - 1, by omega⟩ else none

/-- A number in lo..hi. -/
def inRange (lo hi n : Nat) : Bool := decide (lo ≤ n ∧ n ≤ hi)

/-- The checks of a request naming a section (R13, R37). -/
def P60.refuseSection (s : P60) (n : Nat) : Option Result :=
  if s.plan?.isNone then some .planNotActive
  else if ¬ inRange 1 240 n then some .outOfRange
  else if (s.section? n).isNone then some .notInPlan
  else none

/-- The checks of a request naming a turnout (R13, R48, R57, R58). -/
def P60.refuseTurnout (s : P60) (n : Nat) : Option Result :=
  if s.plan?.isNone then some .planNotActive
  else if ¬ inRange 1 48 n then some .outOfRange
  else if (s.turnout? n).isNone then some .notInPlan
  else none

/-- The checks of a request naming a pad (R13, R153). -/
def P60.refusePad (s : P60) (n : Nat) : Option Result :=
  if s.plan?.isNone then some .planNotActive
  else if ¬ inRange 1 160 n then some .outOfRange
  else if (s.planPad? n).isNone then some .notInPlan
  else none

/-! ## Codes of named values (R205) -/

def legOf (b : Byte) : Option Leg :=
  if b = 1 then some .normal else if b = 2 then some .reverse else none

def Leg.code : Leg → Nat
  | .normal => 1
  | .reverse => 2

def legCode : Option Leg → Nat
  | none => 0
  | some x => x.code

def policyOf (b : Byte) : Option HoldPolicy :=
  if b = 1 then some .stopNow else if b = 2 then some .atBoundary else if b = 3 then some .proceed else none

def HoldPolicy.code : HoldPolicy → Nat
  | .stopNow => 1
  | .atBoundary => 2
  | .proceed => 3

def orderKindOf (b : Byte) : Option OrderKind :=
  if b = 1 then some .fetch else if b = 2 then some .deliver else if b = 3 then some .run else none

def OrderKind.code : OrderKind → Nat
  | .fetch => 1
  | .deliver => 2
  | .run => 3

def OrderState.code : OrderState → Nat
  | .queued => 1
  | .active _ _ => 2
  | .suspended _ _ => 3
  | .done => 4
  | .failed _ => 5
  | .cancelled => 6

def Stage.code : Stage → Nat
  | .setting => 1
  | .running => 2
  | .waiting => 3
  | .stopping => 4
  | .held => 5
  | .dockArrive => 6
  | .dockUnclamp => 7
  | .dockLift => 8
  | .dockLower => 9
  | .dockClamp => 10

def stageCode : Option Stage → Nat
  | none => 0
  | some g => g.code

def Cause.code : Cause → Nat
  | .stopped => 1
  | .overdue => 2
  | .estop => 3
  | .silence => 4
  | .linkLost => 5

def FailReason.code : FailReason → Nat
  | .planChanged => 6
  | .routeStart => 7
  | .stopOverrun => 8
  | .overspeed => 9
  | .padTimeout => 10
  | .padFault => 11
  | .liftTimeout => 12
  | .transporterFault => 13
  | .slotReleased => 14

/-- The reason of a SUSPENDED or FAILED order, or none. -/
def OrderState.reasonCode : OrderState → Nat
  | .suspended _ c => c.code
  | .failed r => r.code
  | _ => 0

/-- The stop reason of an ACTIVE order, or none. -/
def OrderState.stopCode : OrderState → Nat
  | .active _ (some c) => c.code
  | _ => 0

def PlanState.code : PlanState → Nat
  | .absent => 1
  | .loading _ _ => 2
  | .active _ => 3
  | .invalid _ _ _ _ => 4

def CheckReason.code : CheckReason → Nat
  | .count => 1
  | .crc => 2
  | .range => 3
  | .reference => 4
  | .symmetry => 5
  | .correspondence => 6
  | .custody => 7

def Occupancy.code : Occupancy → Nat
  | .unproven => 1
  | .free => 2
  | .reserved _ _ => 3
  | .occupied _ => 4
  | .releasing _ => 5
  | .disturbed => 6

def Side.code : Side → Nat
  | .a => 1
  | .b => 2

def sideCode : Option Side → Nat
  | none => 0
  | some x => x.code

def Reading.code : Reading → Nat
  | .none => 0
  | .clear => 1
  | .occupied => 2
  | .silent => 3

/-- A slot by its number, OPERATIONS_POSSESSION as 07h, absent as 00h (R205). -/
def ownerCode : Option Owner → Nat
  | none => 0
  | some (.slot k) => slotNo k
  | some .possession => 7

/-- As an owner, with NONE as 08h (R205). -/
def WaitOn.code : WaitOn → Nat
  | .slot k => slotNo k
  | .possession => 7
  | .none => 8

def TurnoutState.code : TurnoutState → Nat
  | .at .normal => 1
  | .at .reverse => 2
  | .moving .normal _ _ => 3
  | .moving .reverse _ _ => 4
  | .undetected => 5
  | .failed => 6

def TurnoutWord.code : TurnoutWord → Nat
  | .none => 0
  | .report .normal => 1
  | .report .reverse => 2
  | .report .moving => 3
  | .report .noDetection => 4
  | .silent => 5

def ThrowSlot.code : ThrowSlot → Nat
  | .one => 1
  | .two => 2

/-- The authority state NONE is R205's none, 00h, though R103 lists it first; GIVEN and BRAKED follow from 01h
(R103, R119, R205; log 15). -/
def AuthorityState.code : AuthorityState → Nat
  | .none => 0
  | .given _ => 1
  | .braked _ => 2

def TargetKind.code : TargetKind → Nat
  | .sectionEnd => 1
  | .padStop => 2

def Basis.code : Basis → Nat
  | .offRoute => 1
  | .reversed => 2
  | .curve => 3

/-- Slot states in the order in which R138 lists them (R205, log 15). -/
def SlotState.code : SlotState → Nat
  | .empty => 1
  | .idle => 2
  | .moving => 3
  | .waiting => 4
  | .stopping => 5
  | .held => 6
  | .docking => 7
  | .lost => 8
  | .conflict => 9

def TimerState.code : TimerState → Nat
  | .stopped => 1
  | .running => 2
  | .paused => 3

def StopCause.code : StopCause → Nat
  | .none => 0
  | .overdue => 1
  | .suspended => 2
  | .finished => 3

def Clamp.code : Clamp → Nat
  | .locked => 1
  | .unlocked => 2
  | .unknown => 3
  | .fault => 4

def Awaiting.code : Awaiting → Nat
  | .none => 0
  | .unlocked => 1
  | .lifted => 2
  | .lowered => 3
  | .locked => 4

def CommandDue.code : CommandDue → Nat
  | .none => 0
  | .padUnlock => 1
  | .lift => 2
  | .lower => 3

def StageTimer.code : StageTimer → Nat
  | .stopped => 1
  | .running _ => 2
  | .paused _ => 3

def StageTimer.left : StageTimer → Nat
  | .stopped => 0
  | .running n => n
  | .paused n => n

def Location.code : Location → Nat
  | .pad _ => 1
  | .transporter _ => 2
  | .unplaced => 3

def faultCode : Option FaultCause → Nat
  | none => 0
  | some .transporterFault => 1
  | some .loadMismatch => 2

def StrangerReason.code : StrangerReason → Nat
  | .unaccepted => 1
  | .surplus => 2

def FeederState.code : FeederState → Nat
  | .enabled => 1
  | .tripped => 2
  | .restoring _ => 3
  | .starting _ => 4
  | .lockout => 5

/-- The restore timer's remaining time, 0 if stopped. -/
def FeederState.left : FeederState → Nat
  | .restoring n => n
  | .starting n => n
  | _ => 0

def SilenceState.code : SilenceState → Nat
  | .unarmed => 1
  | .armed => 2
  | .expired => 3

def SweepState.code : SweepState → Nat
  | .none => 0
  | .running => 1
  | .done => 2

def UnitKind.code : UnitKind → Nat
  | .detector => 1
  | .turnout => 2
  | .pad => 3

/-- Message kind codes of the field link, from the P60 (section 11.6). -/
def FieldMsg.code : FieldMsg → Nat
  | .poll => 1
  | .throw _ => 2
  | .padUnlock => 3
  | .padLock => 4

/-- A level or output that is one of two named values: the first listed is 01h (R190, R205; log 15). -/
def levelCode (first : Bool) : Nat := if first then 1 else 2

/-- The field link's frame to a unit (R192, R200, R205). -/
def fieldFrame (a : Nat) (tag : Byte) (m : FieldMsg) : Frame :=
  ⟨.field, tag, BitVec.ofNat 8 m.code,
    b1 a ++ (match m with | .throw x => b1 x.code | _ => [])⟩

end Sys2Proof.Machine
end

