-- ==== Sys2Proof/Machine/Flags.lean ====
section
/-! DEFINITION. Every flag the rules give: the attention set's conditions (R195), a section's
discrepancy flag (R34), a pad's exposed flag (R139), a slot's fault flag (R150, R152, R169), and
membership of the roster change set (R173). -/

namespace Sys2Proof.Machine

/-! ## The attention set -/

def allConds : List CondKind :=
  [.planInvalid, .unacceptedTransporter, .surplusTransporter, .rosterChanged, .windHold, .feederTrip,
    .feederLockout, .emergencyStop]

def allEvents : List EventKind :=
  [.orderFinished, .deadlock, .sectionDisturbed, .turnoutFailed, .overdue, .intervention, .silenceStop]

def P60.anyFeeder (s : P60) (p : FeederState → Bool) : Bool :=
  allFeeders.any (fun f => p (s.feeders.get f).state)

/-- A condition kind's condition (R195). -/
def P60.condition (s : P60) : CondKind → Bool
  | .planInvalid => match s.plan with | .invalid _ _ _ _ => true | _ => false
  | .unacceptedTransporter => s.strangers.any (fun x => x.reason == .unaccepted)
  | .surplusTransporter => s.strangers.any (fun x => x.reason == .surplus)
  | .rosterChanged => match s.changeSet with | some (_ :: _) => true | _ => false
  | .windHold => s.windInput
  | .feederTrip => s.anyFeeder (fun | .tripped | .restoring _ => true | _ => false)
  | .feederLockout => s.anyFeeder (fun | .lockout => true | _ => false)
  | .emergencyStop => s.estop

/-- The condition kinds whose condition holds, in mask order. -/
def P60.condsNow (s : P60) : List CondKind := allConds.filter s.condition

/-- The set takes its condition kinds from their conditions. Each kind that enters from absence is a
gain and forms one ATTENTION record; a kind leaving forms none (R195, R196). -/
def P60.syncAttention (s : P60) : P60 :=
  { s with
    conds := s.condsNow
    opsTx := s.opsTx ++ (s.condsNow.filter (fun c => !s.conds.contains c)).map (fun _ => .attention) }

/-- An event kind is present while its count is not 0 (R195). -/
def P60.eventsNow (s : P60) : List EventKind := allEvents.filter (fun e => s.counts.get e != 0)

/-- The attention output is asserted while the set is not empty (R196). -/
def P60.attentionOutput (s : P60) : Bool := !s.conds.isEmpty || !s.eventsNow.isEmpty

/-- The mask of kinds present, then the counts of the event kinds (section 11.6). -/
def P60.attentionBytes (s : P60) : List Byte :=
  bFlags (allEvents.map (fun e => s.counts.get e != 0)) ++ bFlags (allConds.map s.conds.contains) ++
    allEvents.map (fun e => BitVec.ofNat 8 (s.counts.get e))

/-! ## Section, pad, slot -/

/-- Sets section n's discrepancy flag; going from clear to set raises SECTION_DISTURBED (R34). -/
def P60.setDiscrepancy (s : P60) (n : Nat) : P60 :=
  match s.section? n with
  | none => s
  | some r =>
    if r.discrepancy then s
    else (s.updSection n (fun r => { r with discrepancy := true })).raise .sectionDisturbed

/-- The exposed flag: the pad has a holder and its clamp is other than LOCKED (R139). -/
def P60.exposed (s : P60) (r : PadRec) : Bool := (s.holder? r.num).isSome && r.clamp != .locked

/-- Sets a slot's fault flag, keeping the cause of a flag already set (R150, R152, R169). -/
def P60.setFault (s : P60) (k : SlotId) (c : FaultCause) : P60 :=
  s.updSlot k (fun x => { x with fault := some (x.fault.getD c) })

/-- A set fault flag. -/
def P60.faulty (s : P60) (k : SlotId) : Bool := (s.slot k).fault.isSome

/-- A slot joins the roster change set while the set is active (R173). -/
def P60.joinChangeSet (s : P60) (k : SlotId) : P60 :=
  match s.changeSet with
  | none => s
  | some l => if l.contains k then s else { s with changeSet := some (l ++ [k]) }

end Sys2Proof.Machine
end

