-- ==== Sys2Proof/Machine/Geometry.lean ====
section
/-! DEFINITION. Routes through the plan: entry ends, exit ends, required legs (R4), and distances
along a route (R5). -/

namespace Sys2Proof.Machine

/-- A route section with what R4 derives for it and what later rules read of it. -/
structure RouteStep where
  sec : Nat
  entry : Side
  exit : Option SecEnd
  leg : Option Leg
  length : Nat
  lineSpeed : Nat
  deriving DecidableEq, Repr

/-- The side of a section an end is on (section 1.1). -/
def SecEnd.side : SecEnd → Side
  | .a => .a
  | .b | .bNormal | .bReverse => .b

def Side.other : Side → Side
  | .a => .b
  | .b => .a

/-- The leg a B end of a TURNOUT section stands for (R4). -/
def SecEnd.leg? : SecEnd → Option Leg
  | .bNormal => some .normal
  | .bReverse => some .reverse
  | .a | .b => none

/-- The ends a section of a kind has (R2). -/
def SectionKind.ends : SectionKind → List SecEnd
  | .plain => [.a, .b]
  | .turnout => [.a, .bNormal, .bReverse]
  | .spur => [.a]

/-- What an end of a section joins; the B join of a TURNOUT section is that of its B-normal end (R1). -/
def PlanSection.joinAt (p : PlanSection) : SecEnd → Option Join
  | .a => p.aJoin
  | .b | .bNormal => p.bJoin
  | .bReverse => p.brJoin

/-- The exit end of section n joined to section m, and the entry end of m it is joined to (R4). -/
def Plan.passage? (p : Plan) (n m : Nat) : Option (SecEnd × SecEnd) :=
  match p.section? n with
  | none => none
  | some q =>
    q.kind.ends.findSome? (fun e =>
      match q.joinAt e with
      | some j => if j.sec = m then some (e, j.fin) else none
      | none => none)

def Plan.step? (p : Plan) (n : Nat) (entry : Side) (exit : Option SecEnd) (leg : Option Leg) :
    Option RouteStep :=
  (p.section? n).map (fun q => ⟨n, entry, exit, leg, q.length, q.lineSpeed⟩)

/-- The rest of a route whose next section n is entered by `entry` (R4). -/
def Plan.deriveRest (p : Plan) (entry : SecEnd) (n : Nat) : List Nat → Option (List RouteStep)
  | [] => do
    let st ← p.step? n entry.side none none
    pure [st]
  | m :: rest => do
    let (e, f) ← p.passage? n m
    if e.side = entry.side then none
    else
      let st ← p.step? n entry.side (some e) (e.leg?.or entry.leg?)
      let more ← p.deriveRest f m rest
      pure (st :: more)

/-- The derivation of a route, if it has one (R4). -/
def Plan.derive (p : Plan) : List Nat → Option (List RouteStep)
  | [] => none
  | [n] => do
    let st ← p.step? n .a none none
    pure [st]
  | n :: m :: rest => do
    let (e, f) ← p.passage? n m
    let st ← p.step? n e.side.other (some e) e.leg?
    let more ← p.deriveRest f m rest
    pure (st :: more)

/-- The derived route of an order, empty while no plan is ACTIVE. -/
def P60.stepsOf (s : P60) (o : Order) : List RouteStep :=
  ((s.plan?.bind (fun p => p.derive o.route))).getD []

/-- Position of section n in a route, counted from 1; 0 if it is not on the route. -/
def indexIn (n : Nat) : List Nat → Nat
  | [] => 0
  | m :: rest => if m = n then 1 else match indexIn n rest with | 0 => 0 | i + 1 => i + 2

/-- The route section at index i, counted from 1. -/
def stepAt? (l : List RouteStep) (i : Nat) : Option RouteStep := if i = 0 then none else l[i - 1]?

/-- The far end of a route section as an offset (R5, R91). -/
def RouteStep.farOffset (t : RouteStep) : Nat := if t.entry = .a then t.length else 0

/-- Distance from a route section's entry end to an offset in it, the offset clamped to the section (R5). -/
def RouteStep.along (t : RouteStep) (off : Nat) : Nat :=
  if t.entry = .a then min off t.length else t.length - min off t.length

/-- Distance from the entry end of the route's first section to the entry end of its section i. -/
def lengthBefore (l : List RouteStep) (i : Nat) : Nat := ((l.take (i - 1)).map (·.length)).sum

/-- Distance from the start of the route to the point (section at index i, offset). -/
def coordinate (l : List RouteStep) (i off : Nat) : Nat :=
  match stepAt? l i with
  | none => lengthBefore l i
  | some t => lengthBefore l i + t.along off

/-- Distance along the route between two points, negative when the second lies behind the first (R5). -/
def distance (l : List RouteStep) (i off j off' : Nat) : Int :=
  (coordinate l j off' : Int) - (coordinate l i off : Int)

/-- Distance along the route from a point to the far end of its section j (R5). -/
def distanceToFar (l : List RouteStep) (i off j : Nat) : Int :=
  ((lengthBefore l (j + 1) : Nat) : Int) - (coordinate l i off : Int)

end Sys2Proof.Machine
end

