-- ==== Sys2Proof/Machine/Throws.lean ====
section
/-! DEFINITION. Throw requests, the throw queue and the throw slots' arbiter (sections 3.3, 3.4). -/

namespace Sys2Proof.Machine

/-- The limit on a throw (R51). -/
def throwLimit : Nat := 6000

/-- Outcomes of a throw request (R47). -/
inductive ThrowOutcome where
  | done
  | queued
  | inProgress
  | locked
  | failed
  | movingOther
  deriving DecidableEq, Repr

def Leg.other : Leg → Leg
  | .normal => .reverse
  | .reverse => .normal

/-- The throw slot a turnout holds (R44, R45). -/
def TurnoutState.slot? : TurnoutState → Option ThrowSlot
  | .moving _ sl _ => some sl
  | _ => none

/-- A throw slot that no turnout holds, slot 1 first (R51). -/
def P60.freeThrowSlot? (s : P60) : Option ThrowSlot :=
  if s.turnouts.all (fun r => r.state.slot? != some .one) then some .one
  else if s.turnouts.all (fun r => r.state.slot? != some .two) then some .two
  else none

/-- An entry takes the free slot: THROW is sent, handed to the field link port, and the throw begins
(R51, log 41). -/
def P60.beginThrow (s : P60) (t : Nat) (x : Leg) (sl : ThrowSlot) : P60 :=
  (s.updTurnout t (fun r => { r with state := .moving x sl throwLimit, retry := 0 })).commandTo .turnout t
    (.throw x)

/-- The arbiter over the entries in order: it goes on until both slots are held or the queue is empty.
An entry whose section has an owner, or whose turnout already lies in its leg, is dropped (R51). -/
def P60.arbiterFrom : List (Nat × Leg) → P60 → P60
  | [], s => { s with throwQueue := [] }
  | (t, x) :: q, s =>
    match s.freeThrowSlot? with
    | none => { s with throwQueue := (t, x) :: q }
    | some sl =>
      match s.turnout? t with
      | none => P60.arbiterFrom q s
      | some r =>
        if s.locked r || r.state == .at x then P60.arbiterFrom q s
        else P60.arbiterFrom q (s.beginThrow t x sl)

/-- Consults the arbiter (R51). -/
def P60.arbiter (s : P60) : P60 := P60.arbiterFrom s.throwQueue s

/-- The queue after a request that R47 ends in QUEUED: a later request for a turnout changes its
entry's leg but not its place (R47, R50). -/
def queueThrow (q : List (Nat × Leg)) (t : Nat) (x : Leg) : List (Nat × Leg) :=
  if q.any (fun e => e.1 == t) then q.map (fun e => if e.1 = t then (t, x) else e) else q ++ [(t, x)]

/-- A throw request, decided on the turnout's record (R47). -/
def P60.throwRequest (s : P60) (t : Nat) (x : Leg) : P60 × ThrowOutcome :=
  match s.turnout? t with
  | none => (s, .failed)
  | some r =>
    if r.state = .at x then (s, .done)
    else if s.locked r then (s, .locked)
    else if r.state = .failed then (s, .failed)
    else
      match r.state with
      | .moving y _ _ => if y = x then (s, .inProgress) else (s, .movingOther)
      | _ => ({ s with throwQueue := queueThrow s.throwQueue t x }.arbiter, .queued)

/-- Place of a turnout's entry in the throw queue, from 1, or 0 if it has none (R48, R58). -/
def P60.queuePlace (s : P60) (t : Nat) : Nat := indexIn t (s.throwQueue.map (·.1))

end Sys2Proof.Machine
end

