-- ==== Sys2Proof/Machine/Waits.lean ====
section
/-! DEFINITION. Waiter queues (R21, R22), waits (R90, R95), and the search for a wait cycle
(R97, R98, R99). -/

namespace Sys2Proof.Machine

/-- The slot that slot k waits on: its pair of the wait-for relation (R97). -/
def P60.waitsOn? (s : P60) (k : SlotId) : Option SlotId :=
  match (s.slot k).progress.wait with
  | some ⟨_, .slot t, _⟩ => some t
  | _ => none

/-- Follows the wait-for chain from k. `taken` holds the slots taken, last first; the chain stops at a
slot that waits on no slot, or after six slots. It answers the cycle when the chain returns to k (R98). -/
def P60.chain (s : P60) (k : SlotId) : Nat → SlotId → List SlotId → Option (List SlotId)
  | room, cur, taken =>
    match s.waitsOn? cur with
    | none => none
    | some t =>
      if t = k then some taken.reverse
      else
        match room with
        | 0 => none
        | room + 1 => P60.chain s k room t (t :: taken)

/-- The section slot k waits on, 0 if none. -/
def P60.waitedSection (s : P60) (k : SlotId) : Nat :=
  match (s.slot k).progress.wait with
  | some w => w.sec
  | none => 0

/-- Looks for a deadlock closed by the wait of slot k that has just begun, and records and reports it
(R98, R99). -/
def P60.searchDeadlock (s : P60) (k : SlotId) : P60 :=
  match s.chain k 5 k [k] with
  | none => s
  | some l =>
    { s with deadlock := some ⟨l.map (fun j => (j, s.waitedSection j)), s.clock⟩ }.raise .deadlock

/-- A wait of slot k begins now (R90). -/
def P60.beginWait (s : P60) (k : SlotId) (n : Nat) (on : WaitOn) : P60 :=
  let s := s.updProgress k (fun p => { p with wait := some ⟨n, on, s.clock⟩ })
  match on with
  | .slot _ => s.searchDeadlock k
  | _ => s

/-- A WAITING answer: a wait on the same section and owner continues, any other begins (R90). -/
def P60.recordWait (s : P60) (k : SlotId) (n : Nat) (on : WaitOn) : P60 :=
  match (s.slot k).progress.wait with
  | some w => if w.sec = n ∧ w.on = on then s else s.beginWait k n on
  | none => s.beginWait k n on

/-- Slot k leaves section n's queue. Where it was first and another is left, the new first waiter is
owed a hand-over check (R21, R24). -/
def P60.leaveQueue (s : P60) (k : SlotId) (n : Nat) : P60 :=
  match s.section? n with
  | none => s
  | some r =>
    let s := s.updSection n (fun r => { r with waiters := r.waiters.erase k })
    match r.waiters with
    | j :: _ :: _ => if j = k then s.oweCheck n else s
    | _ => s

/-- The section in whose queue slot k stands, if any (R21: at most one). -/
def P60.queueOf? (s : P60) (k : SlotId) : Option Nat :=
  (s.sections.find? (fun r => r.waiters.contains k)).map (·.num)

/-- Slot k joins section n's queue: it keeps its place there, or leaves another queue first and joins
the tail (R21). -/
def P60.joinQueue (s : P60) (k : SlotId) (n : Nat) : P60 :=
  match s.queueOf? k with
  | some m =>
    if m = n then s
    else (s.leaveQueue k m).updSection n (fun r => { r with waiters := r.waiters ++ [k] })
  | none => s.updSection n (fun r => { r with waiters := r.waiters ++ [k] })

/-- Withdraws slot k's wait: it leaves its queue wherever it stood, and its wait is absent (R21, R95). -/
def P60.withdrawWait (s : P60) (k : SlotId) : P60 :=
  let s := match s.queueOf? k with
    | some n => s.leaveQueue k n
    | none => s
  s.updProgress k (fun p => { p with wait := none })

/-- A section's owner changes without hand-over: each waiter's wait is revised, in queue order (R22). -/
def P60.reviseWaits (s : P60) (n : Nat) (on : WaitOn) : P60 :=
  match s.section? n with
  | none => s
  | some r => r.waiters.foldl (fun s k => s.beginWait k n on) s

/-- The wait an owner brings. -/
def Owner.waitOn : Owner → WaitOn
  | .slot k => .slot k
  | .possession => .possession

end Sys2Proof.Machine
end

