-- ==== Sys2Proof/Machine/Reservation.lean ====
section
/-! DEFINITION. The reservation table: grants, attempts, release requests, disturbance and adoption
(sections 2.2 to 2.7). -/

namespace Sys2Proof.Machine

/-- The minimum hold (R26). -/
def minimumHold : Nat := 2000

/-- The clearing time (R27). -/
def clearingTime : Nat := 3000

/-- The proving time (R29). -/
def provingTime : Nat := 3000

/-- The entry-confirmation time (R32). -/
def confirmTime : Nat := 3000

/-- R18's conditions of a grant on section n with required leg x. -/
def P60.grantable (s : P60) (n : Nat) (x : Option Leg) : Bool :=
  match s.section? n with
  | none => false
  | some r =>
    r.occ == .free && !r.inhibit && s.powered n &&
      (match x with | none => true | some y => s.detectedIn n y)

/-- Grants section n to slot k (R18): the slot leaves the queue, and each remaining waiter waits on the
new owner (R22, R23). -/
def P60.grant (s : P60) (k : SlotId) (n : Nat) (entry : Side) (x : Option Leg) : P60 :=
  (s.updSection n (fun r =>
    { r with
      occ := .reserved ⟨.slot k, some entry, x, s.clock, true, false, none⟩ none
      waiters := r.waiters.erase k })).reviseWaits n (.slot k)

/-- A FREE, uninhibited and powered section whose turnout lies in the other leg, is UNDETECTED, or moves
towards the other leg: the first waiter's leg is asked for (R19, R23). -/
def P60.throwWanted? (s : P60) (n : Nat) (x : Option Leg) : Option (Nat × Leg) :=
  match s.section? n, x, s.turnoutIn? n with
  | some r, some y, some t =>
    if r.occ = .free ∧ ¬ r.inhibit ∧ s.powered n then
      match t.state with
      | .at z => if z = y then none else some (t.num, y)
      | .moving z _ _ => if z = y then none else some (t.num, y)
      | .undetected => some (t.num, y)
      | .failed => none
    else none
  | _, _, _ => none

/-- Requests the throw that the first waiter of section n needs, if any (R19, R23, R49). -/
def P60.askThrow (s : P60) (n : Nat) (x : Option Leg) : P60 :=
  match s.throwWanted? n x with
  | none => s
  | some (t, y) => (s.throwRequest t y).1

/-- Slot k is first in section n's queue. -/
def P60.isFirst (s : P60) (k : SlotId) (n : Nat) : Bool :=
  match s.section? n with
  | some r => r.waiters.head? == some k
  | none => false

/-- No slot stands before slot k in section n's queue: the queue is empty, or k is its first waiter. A later
waiter is not served before the first (R23, log 11). -/
def P60.unpassed (s : P60) (k : SlotId) (n : Nat) : Bool :=
  match s.section? n with
  | some r => r.waiters.isEmpty || r.waiters.head? == some k
  | none => false

/-- A reservation attempt by slot k on a route section. It answers whether the section is GRANTED; a
WAITING answer leaves the slot in the queue with its wait recorded (R18, R19, R20). -/
def P60.attempt (s : P60) (k : SlotId) (st : RouteStep) : P60 × Bool :=
  match s.section? st.sec with
  | none => (s, false)
  | some r =>
    match r.occ.holding? with
    | some h =>
      if h.owner = .slot k then
        if h.releasePending then ((s.joinQueue k st.sec).recordWait k st.sec .none, false)
        else
          (s.updSection st.sec (fun r =>
            { r with occ := r.occ.mapHolding (fun h =>
                { h with entry := some st.entry, leg := st.leg, autoRelease := true }) }), true)
      else ((s.joinQueue k st.sec).recordWait k st.sec h.owner.waitOn, false)
    | none =>
      if s.grantable st.sec st.leg && s.unpassed k st.sec then (s.grant k st.sec st.entry st.leg, true)
      else
        let s := (s.joinQueue k st.sec).recordWait k st.sec .none
        (if s.isFirst k st.sec then s.askThrow st.sec st.leg else s, false)

/-- A release takes effect: the section clears (R27). -/
def P60.releaseNow (s : P60) (n : Nat) : P60 := (s.setOcc n (.releasing clearingTime)).reviseWaits n .none

/-- A release request for section n made for an owner: without effect unless that owner has it and no
release is pending; otherwise at once, or deferred to the end of the minimum hold (R25, R26). -/
def P60.releaseRequest (s : P60) (n : Nat) (o : Owner) : P60 :=
  match (s.section? n).bind (·.occ.holding?) with
  | none => s
  | some h =>
    if h.owner ≠ o ∨ h.releasePending then s
    else if minimumHold ≤ s.elapsed h.since then s.releaseNow n
    else
      s.updSection n (fun r => { r with occ := r.occ.mapHolding (fun h => { h with releasePending := true }) })

/-- Release requests for several sections, each a request of its own (R25). -/
def P60.releaseAll (s : P60) (l : List Nat) (o : Owner) : P60 :=
  l.foldl (fun s n => s.releaseRequest n o) s

/-- The section becomes DISTURBED, with SECTION_DISTURBED raised (R27, R29, R31, R33). -/
def P60.disturb (s : P60) (n : Nat) : P60 := (s.setOcc n .disturbed).raise .sectionDisturbed

/-- An owned section loses its owner and becomes DISTURBED; each waiter waits on none (R29, R30). -/
def P60.disturbOwned (s : P60) (n : Nat) : P60 := (s.disturb n).reviseWaits n .none

/-- The section becomes FREE: its discrepancy flag is cleared, and its waiters are owed a hand-over
check (R23, R27, R31). -/
def P60.becomeFree (s : P60) (n : Nat) : P60 :=
  let s := s.updSection n (fun r => { r with occ := .free, discrepancy := false })
  match s.section? n with
  | some r => if r.waiters.isEmpty then s else s.oweCheck n
  | none => s

/-- A feeder's output comes on: a hand-over check on each FREE section of it that has waiters, in the
table's order (R182, log 26). -/
def P60.oweFeederChecks (s : P60) (f : FeederId) : P60 :=
  (s.sections.filter (fun r =>
    r.occ == .free && !r.waiters.isEmpty && ((s.planSection? r.num).map (·.feeder) == some f))).foldl
    (fun s r => s.oweCheck r.num) s

/-- A detection event: the section's waiters are owed a hand-over check (R45, R23). -/
def P60.detection (s : P60) (n : Nat) : P60 :=
  match s.section? n with
  | some r => if r.waiters.isEmpty then s else s.oweCheck n
  | none => s

/-- A turnout enters the leg x from any other state (R45). -/
def P60.detect (s : P60) (r : TurnoutRec) (x : Leg) : P60 :=
  (s.updTurnout r.num (fun t => { t with state := .at x })).detection r.sec

/-- A section qualifies for adoption by slot k (R35). -/
def P60.adoptable (s : P60) (k : SlotId) (n : Nat) : Bool :=
  match s.section? n with
  | none => false
  | some r =>
    match r.occ with
    | .free | .unproven | .disturbed => true
    | .reserved h _ => h.owner == .slot k
    | .occupied h => h.owner == .slot k
    | .releasing _ => false

/-- Adoption of one qualifying section (R35). -/
def P60.adoptOne (s : P60) (k : SlotId) (n : Nat) : P60 :=
  match s.section? n with
  | none => s
  | some r =>
    match r.occ.holding? with
    | some h => s.setOcc n (.occupied h)
    | none =>
      (s.setOcc n (.occupied ⟨.slot k, none, none, s.clock, false, false, none⟩)).reviseWaits n (.slot k)

/-- Adoption of the sections of a slot's front and rear, judged together; none on a conflict (R35). A
slot that waited on a section it now owns waits no more (R97, log 34). -/
def P60.adopt? (s : P60) (k : SlotId) (f r : Nat) : Option P60 :=
  if s.adoptable k f && s.adoptable k r then
    let s := if s.queueOf? k = some f ∨ s.queueOf? k = some r then s.withdrawWait k else s
    let s := s.adoptOne k f
    let s := if f = r then s else s.adoptOne k r
    some (s.updSlot k (fun x => { x with overlap := some (f, r) }))
  else none

end Sys2Proof.Machine
end

