-- ==== Sys2Proof/Machine/Stages.lean ====
section
/-! DEFINITION. Order stages and the slot state that follows them (R121), the passage timer's running
and pausing (R127, R130, R132), and the passage allowance (R118). -/

namespace Sys2Proof.Machine

/-! ## Figures in force -/

/-- Maximum speed for the present load state (R106). -/
def P60.vMax (s : P60) (k : SlotId) : Nat :=
  if s.laden k then (s.slot k).figures.ladenSpeed else (s.slot k).figures.unladenSpeed

/-- Applied deceleration for the present load state (R106). -/
def P60.decel (s : P60) (k : SlotId) : Nat :=
  if s.laden k then (s.slot k).figures.ladenDecel else (s.slot k).figures.unladenDecel

/-- The lookahead L (R116). -/
def P60.lookahead (s : P60) (k : SlotId) : Nat :=
  ceilDiv (s.vMax k * s.vMax k) (2 * s.decel k) + s.margin

/-- The section of the slot's front, as the rules read it (R85, R170). -/
def P60.frontSec (s : P60) (k : SlotId) : Nat := (s.slot k).front.sec.toNat

/-- The section of the slot's rear. -/
def P60.rearSec (s : P60) (k : SlotId) : Nat := (s.slot k).rear.sec.toNat

/-! ## Holds, as the timer reads them -/

/-- The slot is in a feeder's held set (R178). -/
def P60.feederHeld (s : P60) (k : SlotId) : Bool :=
  allFeeders.any (fun f => (s.feeders.get f).held.contains k)

/-- The hold pauses the passage timer at once (R178). -/
def P60.pausedAtOnce (s : P60) (k : SlotId) : Bool :=
  (s.slot k).windHold == some .stopNow || s.feederHeld k

/-! ## The passage timer -/

/-- The conditions that pause the timer of an ACTIVE order (R130). -/
def P60.pauseCondition (s : P60) (k : SlotId) (g : Stage) (stop : Option Cause) : Bool :=
  g == .waiting || g == .held || g.isDocking || (g == .stopping && stop.isSome) ||
    s.pausedAtOnce k || (s.slot k).status == .lost

/-- Re-judges the timer of a slot whose order is ACTIVE: PAUSED or RUNNING, unless STOPPED (R130). -/
def P60.judgeTimer (s : P60) (k : SlotId) : P60 :=
  match s.activeOrder? k with
  | none => s
  | some (_, g, stop) =>
    s.updTimer k (fun t =>
      if t.state = .stopped then t
      else { t with state := if s.pauseCondition k g stop then .paused else .running })

/-- The passage allowance of a route section (R118). -/
def P60.allowance (s : P60) (k : SlotId) (st : RouteStep) (isLast : Bool) : Nat :=
  let v := if isLast then 100 else min st.lineSpeed (s.vMax k)
  let slack := ((s.planSection? st.sec).map (·.slack)).getD 0
  roundUp10 (ceilDiv (st.length * 1250) v + slack)

/-- Loads the timer for the route section at index j (R127). -/
def P60.loadTimer (s : P60) (k : SlotId) (o : Order) (j : Nat) : P60 :=
  match stepAt? (s.stepsOf o) j with
  | none => s
  | some st =>
    let period := s.allowance k st (j == o.route.length)
    (s.updTimer k (fun t =>
      { t with state := .running, sec := st.sec, period, count := 0, cause := .none })).judgeTimer k

/-- The timer of an order that enters SUSPENDED (R132). -/
def P60.stopTimerSuspended (s : P60) (k : SlotId) : P60 :=
  s.updTimer k (fun t =>
    if t.state = .stopped ∧ t.cause = .overdue then t else { t with state := .stopped, cause := .suspended })

/-- The timer of an order that finishes (R132). -/
def P60.stopTimerFinished (s : P60) (k : SlotId) : P60 :=
  s.updTimer k (fun t =>
    if t.state = .stopped then t else { t with state := .stopped, cause := .finished })

/-! ## Stage and slot state -/

/-- The slot state that an ACTIVE order's stage gives; SETTING borrows the one before (R121). -/
def stageStatus (g : Stage) (before : SlotState) : SlotState :=
  match g with
  | .setting => before
  | .running => .moving
  | .waiting => .waiting
  | .stopping => .stopping
  | .held => .held
  | .dockArrive | .dockUnclamp | .dockLift | .dockLower | .dockClamp => .docking

/-- A slot that is EMPTY, LOST or CONFLICT keeps its state whatever its order does (R121). -/
def SlotState.fixed : SlotState → Bool
  | .empty | .lost | .conflict => true
  | _ => false

/-- Sets a slot's state by its order, unless the roster fixes it (R121). -/
def P60.setStatus (s : P60) (k : SlotId) (st : SlotState) : P60 :=
  s.updSlot k (fun x => if x.status.fixed then x else { x with status := st })

/-- A slot whose state becomes IDLE brings a scan (R82, R121). -/
def P60.becomeIdle (s : P60) (k : SlotId) : P60 :=
  let st := (s.slot k).status
  if st.fixed || st == .idle then s else (s.setStatus k .idle).trigger

/-- Stages whose entry withdraws the slot's wait (R95). -/
def Stage.withdraws (g : Stage) : Bool := g == .stopping || g == .held || g.isDocking

/-- The slot's ACTIVE or SUSPENDED order is ACTIVE in stage g from now on; the slot state follows in the
same step, and the timer is re-judged (R62, R95, R121, R130). -/
def P60.setStage (s : P60) (k : SlotId) (g : Stage) (stop : Option Cause) : P60 :=
  match s.liveOrder? k with
  | none => s
  | some o =>
    let s := s.setOrderState o.id (.active g stop)
    let s := if g.withdraws then s.withdrawWait k else s
    (s.updSlot k (fun x =>
      if x.status.fixed then x else { x with status := stageStatus g x.status })).judgeTimer k

end Sys2Proof.Machine
end

