-- ==== Sys2Proof/Machine/Braking.lean ====
section
/-! DEFINITION. The braking supervisor: authority, the permitted speed, intervention, BRAKE, ALL_STOP,
re-issue and cut-back (chapter 6). -/

namespace Sys2Proof.Machine

/-- Distances are clamped above at this before they enter a product (R106, R109). -/
def distanceCap : Nat := 2000000

/-- A reported speed, clamped to 0..3,000 mm/s (R106). -/
def clampSpeed (v : Nat) : Nat := min 3000 v

/-! ## AUTHORITY and BRAKE -/

/-- The line speed of section n; a section the plan does not define sets no limit. -/
def P60.lineSpeeds (s : P60) (n : Nat) : List Nat := ((s.planSection? n).map (·.lineSpeed)).toList

/-- The lowest of a first figure and others. -/
def lowest (first : Nat) (l : List Nat) : Nat := l.foldl min first

/-- Route sections after index i, up to and including index j. -/
def stepsBetween (l : List RouteStep) (i j : Nat) : List RouteStep := (l.take j).drop i

/-- The ceiling sent with an end of authority; a front off the route has no route section ahead (R105,
log 48). -/
def P60.ceilingFor (s : P60) (k : SlotId) (e : Eoa) : Nat :=
  let own := s.lineSpeeds (s.frontSec k) ++ s.lineSpeeds (s.rearSec k)
  let ahead := match s.liveOrder? k with
    | none => []
    | some o =>
      let fi := indexIn (s.frontSec k) o.route
      if fi = 0 then []
      else (stepsBetween (s.stepsOf o) fi (indexIn e.sec o.route)).map (·.lineSpeed)
  lowest (s.vMax k) (own ++ ahead)

/-- Sends AUTHORITY for an end of authority with a ceiling computed afresh, and records both; the record
becomes GIVEN (R104, R105, R115). -/
def P60.sendAuthority (s : P60) (k : SlotId) (e : Eoa) : P60 :=
  let c := s.ceilingFor k e
  (s.updAuthority k (fun a => { a with state := .given e, sentCeiling := c })).hand k .motion
    (.authority e.sec e.off c)

/-- BRAKE is sent to a slot (R105). -/
def P60.sendBrake (s : P60) (k : SlotId) : P60 := s.hand k .motion .brake

/-- The record holds no authority: end of authority and target kind absent, sent ceiling 0 (R104, R120). -/
def P60.dropAuthority (s : P60) (k : SlotId) : P60 :=
  s.updAuthority k (fun a => { a with state := .none, sentCeiling := 0 })

/-- The route setter hands an end of authority, or none (R104). -/
def P60.handEoa (s : P60) (k : SlotId) (e : Option Eoa) : P60 :=
  match (s.slot k).authority.state, e with
  | .none, some e => s.sendAuthority k e
  | .given _, some e => s.sendAuthority k e
  | .braked _, some e => s.updAuthority k (fun a => { a with state := .braked e })
  | .none, none => s
  | .given _, none => (s.dropAuthority k).sendBrake k
  | .braked _, none => s.dropAuthority k

/-- A GIVEN record becomes BRAKED, keeping its end of authority (R112, R113). -/
def AuthorityState.brake : AuthorityState → AuthorityState
  | .given e => .braked e
  | st => st

/-- A BRAKE request: BRAKE is sent whatever the record's state, a GIVEN record becomes BRAKED, and an
order in RUNNING becomes STOPPING (R113). -/
def P60.brakeRequest (s : P60) (k : SlotId) : P60 :=
  let s := (s.updAuthority k (fun a => { a with state := a.state.brake })).sendBrake k
  if s.activeStage? k = some .running then s.setStage k .stopping none else s

/-- A motion place that holds an AUTHORITY is emptied (R113, R161). -/
def Peer.dropAuthority (p : Peer) : Peer :=
  match p.motion with
  | some ⟨.authority _ _ _, _, _, _⟩ => { p with motion := none }
  | _ => p

/-- Time between the sendings of ALL_STOP (R159). -/
def allStopInterval : Nat := 100

/-- An ALL_STOP request: the first of three sendings goes out, every GIVEN record becomes BRAKED, and
the motion places that hold an AUTHORITY are emptied (R113, R159). -/
def P60.allStopRequest (s : P60) : P60 :=
  allSlots.foldl (fun s k => s.updSlot k (fun x =>
    { x with
      authority := { x.authority with state := x.authority.state.brake }
      peer := x.peer.map Peer.dropAuthority }))
    { s.send allStopFrame with allStop := some ⟨2, allStopInterval⟩ }

/-- Re-issue of a slot's authority at the end of a braking or a hold (R115). -/
def P60.reissue (s : P60) (k : SlotId) : P60 :=
  match (s.slot k).authority.state with
  | .given e | .braked e => s.sendAuthority k e
  | .none => s

/-! ## The evaluation of a POSITION report -/

/-- The basis of a report (R106). -/
def P60.basis (s : P60) (k : SlotId) (rep : PositionReport) : Basis :=
  let f := rep.front.sec.toNat
  if (s.planSection? f).isNone ∨ (s.planSection? rep.rear.sec.toNat).isNone ∨ (s.slot k).progress.order = 0
  then .offRoute
  else
    match s.liveOrder? k with
    | none => .offRoute
    | some o =>
      if indexIn f o.route = 0 ∨ indexIn f o.route < o.routeIndex then .offRoute
      else if rep.direction = .backward ∧ clampSpeed rep.speed.toNat ≠ 0 then .reversed
      else .curve

/-- The signed distance from a point to an end of authority along an order's route, clamped above (R106). -/
def P60.signedDistance (s : P60) (o : Order) (p : Point) (e : Eoa) : Int :=
  min (distance (s.stepsOf o) (indexIn p.sec.toNat o.route) p.off.toNat (indexIn e.sec o.route) e.off)
    distanceCap

/-- The EoA term E (R108). -/
def eoaTerm (kind : TargetKind) (d : Int) (a m : Nat) : Nat :=
  match kind with
  | .sectionEnd => if d ≤ m then 0 else isqrt (2 * a * (d - m).toNat)
  | .padStop => if 50 < d then max 100 (isqrt (2 * a * d.toNat)) else 0

/-- The docking window about a pad's stop point (00_scope.md, Terms; R108). -/
def inWindow (d : Int) : Bool := decide (-50 ≤ d ∧ d ≤ 50)

/-- The tolerance T (R111). -/
def tolerance (kind : TargetKind) (d : Int) (p : Nat) : Nat :=
  if kind = .padStop ∧ inWindow d then 100 else if p = 0 then 0 else max 50 (p / 16)

/-- The speed target term S_k (R109). -/
def targetTerm (v a d : Nat) : Nat := isqrt (v * v + 2 * a * d)

/-- The speed targets: line speed and distance to the entry end of each route section ahead, up to the
end of authority's, whose line speed is below the ceiling (R109). -/
def speedTargets (l : List RouteStep) (fi off ei ceiling : Nat) : List (Nat × Nat) :=
  (List.range (ei - fi)).filterMap (fun i =>
    match stepAt? l (fi + i + 1) with
    | none => none
    | some t =>
      if t.lineSpeed < ceiling then
        some (t.lineSpeed, min distanceCap (lengthBefore l (fi + i + 1) - coordinate l fi off))
      else none)

/-- The figures of a report evaluated against an end of authority (R106 to R111); those that a basis OFF_ROUTE
or REVERSED does not compute are recorded as 0 (log 49). -/
def P60.figuresOf (s : P60) (k : SlotId) (o : Order) (rep : PositionReport) (e : Eoa) : Evaluation :=
  let v := clampSpeed rep.speed.toNat
  match s.basis k rep with
  | .curve =>
    let a := s.decel k
    let l := s.stepsOf o
    let fi := indexIn rep.front.sec.toNat o.route
    let d := s.signedDistance o rep.front e
    let ceiling := lowest (s.vMax k)
      (s.lineSpeeds rep.front.sec.toNat ++ s.lineSpeeds rep.rear.sec.toNat)
    let ts := speedTargets l fi rep.front.off.toNat (indexIn e.sec o.route) ceiling
    let term := eoaTerm e.kind d a s.margin
    let p := lowest (min ceiling term) (ts.map (fun t => targetTerm t.1 a t.2))
    ⟨s.clock, .curve, d, ceiling, term, p, tolerance e.kind d p, v, ts.length⟩
  | b => ⟨s.clock, b, 0, 0, 0, 0, 0, v, 0⟩

/-- The end of authority of a GIVEN or BRAKED record (R103). -/
def AuthorityState.eoa? : AuthorityState → Option Eoa
  | .none => Option.none
  | .given e => some e
  | .braked e => some e

/-- An intervention (R112). -/
def P60.intervene (s : P60) (k : SlotId) (o : Order) (g : Stage) (ev : Evaluation) : P60 :=
  let s := (s.updAuthority k (fun a =>
    { a with
      state := a.state.brake
      lastIntervention := some ⟨ev.time, ev.basis, ev.d, ev.p, ev.t, ev.speed⟩ })).sendBrake k
  let s := s.updOrder o.id (fun o => { o with interventions := min 3 (o.interventions + 1) })
  let s := if g = .running ∨ g = .waiting ∨ g = .held then s.setStage k .stopping none else s
  s.raise .intervention

/-- A GIVEN record's ceiling is recomputed at each report evaluated; when it differs from the one sent,
AUTHORITY is sent again (R105). -/
def P60.updateCeiling (s : P60) (k : SlotId) : P60 :=
  match (s.slot k).authority.state with
  | .given e => if s.ceilingFor k e = (s.slot k).authority.sentCeiling then s else s.sendAuthority k e
  | _ => s

/-- Unauthorised motion: a report of a slot whose record is NONE or that has no ACTIVE order (R114). -/
def P60.unauthorised (s : P60) (k : SlotId) (rep : PositionReport) : P60 :=
  let v := clampSpeed rep.speed.toNat
  if v = 0 then s
  else
    ((s.updAuthority k (fun a =>
      { a with
        state := a.state.brake
        lastIntervention := some ⟨s.clock, s.basis k rep, 0, 0, 0, v⟩ })).sendBrake k).raise .intervention

/-- The braking supervisor's handling of a POSITION report (R105, R106, R112, R114). -/
def P60.evaluate (s : P60) (k : SlotId) (rep : PositionReport) : P60 :=
  match s.activeOrder? k, (s.slot k).authority.state.eoa? with
  | some (o, g, _), some e =>
    let ev := s.figuresOf k o rep e
    let wasGiven := (s.slot k).authority.state == .given e
    let s := (s.updAuthority k (fun a => { a with lastEval := some ev })).updateCeiling k
    if wasGiven && !g.isDocking && decide (ev.p + ev.t < ev.speed) then s.intervene k o g ev else s
  | _, _ => s.unauthorised k rep

/-! ## Cut-back -/

/-- Braking distance at speed v (R117). -/
def brakingDistance (v a : Nat) : Nat := ceilDiv (v * v) (2 * a)

/-- The truncation stop point: the index of the first route section from the front's whose far end lies
at least B + m ahead and not beyond the present end of authority; a PAD_STOP's spur has none, nor has a
position of basis OFF_ROUTE (R117, R106). -/
def P60.truncationIndex? (s : P60) (k : SlotId) (o : Order) (e : Eoa) : Option Nat :=
  let l := s.stepsOf o
  let fi := indexIn (s.frontSec k) o.route
  let off := (s.slot k).front.off.toNat
  let need : Nat := brakingDistance (clampSpeed (s.slot k).speed) (s.decel k) + s.margin
  let ei := indexIn e.sec o.route
  if fi = 0 ∨ fi < o.routeIndex ∨ (s.planSection? (s.rearSec k)).isNone then none
  else
    ((List.range (ei + 1)).drop fi).find? (fun j =>
      decide ((need : Int) ≤ distanceToFar l fi off j ∧
        distanceToFar l fi off j ≤ distance l fi off ei e.off) &&
      !(j == ei && e.kind == .padStop))

/-- A cut-back request (R117): a stop point short of the present end of authority becomes the end of
authority, the reach is lowered to it (R93), the sections beyond are asked back (R25), and a GIVEN
record sends AUTHORITY. -/
def P60.cutBack (s : P60) (k : SlotId) : P60 :=
  match s.liveOrder? k, (s.slot k).authority.state.eoa? with
  | some o, some e =>
    match (s.truncationIndex? k o e).bind (fun j => (stepAt? (s.stepsOf o) j).map (fun t => (j, t))) with
    | none => s
    | some (j, t) =>
      let e' : Eoa := ⟨t.sec, t.farOffset, .sectionEnd⟩
      if e' = e then s
      else
        let beyond := (stepsBetween (s.stepsOf o) j (s.slot k).progress.reach).map (·.sec)
        let s := s.updProgress k (fun p => { p with reach := j, handed := some (some e') })
        let s := match (s.slot k).authority.state with
          | .braked _ => s.updAuthority k (fun a => { a with state := .braked e' })
          | _ => s.sendAuthority k e'
        s.releaseAll beyond (.slot k)
  | _, _ => s

end Sys2Proof.Machine
end

