-- ==== Sys2Proof/Machine/RouteSetter.lean ====
section
/-! DEFINITION. The route setter: reservation passes, the end of authority they give, the stages they
move, section-entry events and the taking of grants (sections 5.3 to 5.5, R135). -/

namespace Sys2Proof.Machine

/-! ## The end of authority -/

/-- The end of authority that a slot's run gives (R91). -/
def P60.eoaOf (s : P60) (k : SlotId) (o : Order) : Option Eoa :=
  let reach := (s.slot k).progress.reach
  if reach = 0 then none
  else if reach = o.route.length then
    (s.planPad? o.pad).map (fun p => ⟨p.spur, p.stopOffset, .padStop⟩)
  else (stepAt? (s.stepsOf o) reach).map (fun t => ⟨t.sec, t.farOffset, .sectionEnd⟩)

/-- Forms the end of authority and hands it when it differs from the last one handed under the present
dispatch or resumption, or none has been handed under it (R91). -/
def P60.formEoa (s : P60) (k : SlotId) : P60 :=
  match s.liveOrder? k with
  | none => s
  | some o =>
    let e := s.eoaOf k o
    if (s.slot k).progress.handed = some e then s
    else (s.updProgress k (fun p => { p with handed := some e })).handEoa k e

/-- Lowers the reach and hands what follows (R93). -/
def P60.lowerReach (s : P60) (k : SlotId) (j : Nat) : P60 :=
  (s.updProgress k (fun p => { p with reach := j })).formEoa k

/-- Section n leaves slot k's run by a disturbance: the reach becomes the index before it, or 0 below the
route index (R93). -/
def P60.loseFromRun (s : P60) (k : SlotId) (n : Nat) : P60 :=
  match s.liveOrder? k with
  | none => s
  | some o =>
    let i := indexIn n o.route
    if o.routeIndex ≤ i ∧ 1 ≤ i ∧ i ≤ (s.slot k).progress.reach then
      s.lowerReach k (if i - 1 < o.routeIndex then 0 else i - 1)
    else s

/-! ## Passes -/

/-- The run covers the lookahead: it is not empty, and its far end lies L or more ahead (R89). -/
def P60.covered (s : P60) (k : SlotId) (o : Order) : Bool :=
  let reach := (s.slot k).progress.reach
  reach != 0 &&
    decide ((s.lookahead k : Int) ≤
      distanceToFar (s.stepsOf o) (indexIn (s.frontSec k) o.route) (s.slot k).front.off.toNat reach)

/-- Attempts the remaining route sections in order, the first of them at index j, until the lookahead is
covered or an attempt is WAITING (R89). -/
def P60.passFrom (k : SlotId) (o : Order) : Nat → List RouteStep → P60 → P60
  | _, [], s => s
  | j, st :: rest, s =>
    if s.covered k o then s
    else
      match s.attempt k st with
      | (s, false) => s
      | (s, true) =>
        P60.passFrom k o (j + 1) rest (s.updProgress k (fun p =>
          { p with
            reach := j
            wait := p.wait.bind (fun w => if w.sec = st.sec then none else some w) }))

/-- The attempts of a pass: from the route section after the run, or from the route index when the run is
empty; none when the front is not on the route at or after the route index (R89, log 30). -/
def P60.extendRun (s : P60) (k : SlotId) (o : Order) : P60 :=
  let fi := indexIn (s.frontSec k) o.route
  let reach := (s.slot k).progress.reach
  let start := if reach = 0 then o.routeIndex else reach + 1
  if fi = 0 ∨ fi < o.routeIndex ∨ start = 0 then s
  else s.passFrom k o start ((s.stepsOf o).drop (start - 1))

/-- The stage after a pass (R92). Whether AUTHORITY is sent is the braking supervisor's, by its record's state, at the
handing of the end of authority: a BRAKED record stays BRAKED and sends nothing (R104, log 12). -/
def P60.stageAfterPass (s : P60) (k : SlotId) (g : Stage) (before : Nat) : P60 :=
  let reach := (s.slot k).progress.reach
  match g with
  | .setting => if reach = 0 then s.setStage k .waiting none else s.setStage k .running none
  | .waiting => if before < reach then s.setStage k .running none else s
  | _ => s

/-- A reservation pass (R89, R91, R92). -/
def P60.pass (s : P60) (k : SlotId) : P60 :=
  match s.activeOrder? k with
  | none => s
  | some (o, g, _) => ((s.extendRun k o).formEoa k).stageAfterPass k g (s.slot k).progress.reach

/-- A pass event is acted on for slot k (R88). -/
def P60.mayPass (s : P60) (k : SlotId) : Bool :=
  (s.slot k).progress.order != 0 && (s.slot k).status != .lost && !(s.slot k).held &&
    (match s.activeStage? k with
      | some .setting | some .running | some .waiting => true
      | _ => false)

/-- A pass event (R88). -/
def P60.passEvent (s : P60) (k : SlotId) : P60 := if s.mayPass k then s.pass k else s

/-! ## Section entry -/

/-- The passage ends: it is captured, and the timer is loaded for the section entered (R129, log 35). -/
def P60.capture (s : P60) (k : SlotId) (o : Order) (j : Nat) : P60 :=
  let t := (s.slot k).timer
  if t.state = .stopped then s
  else (s.updTimer k (fun t => { t with last := some ⟨t.sec, t.count, t.period⟩ })).loadTimer k o j

/-- A section-entry event for slot k and section n (R94, R129). -/
def P60.sectionEntry (s : P60) (k : SlotId) (n : Nat) : P60 :=
  match s.liveOrder? k with
  | none => s
  | some o =>
    if o.route[o.routeIndex]? = some n then
      let j := o.routeIndex + 1
      let s := s.updOrder o.id (fun o => { o with routeIndex := j })
      let s := s.updProgress k (fun p => { p with reach := if p.reach < j then 0 else p.reach })
      let s := s.withdrawWait k
      let s := if (s.activeStage? k).isSome then s.capture k o j else s
      s.passEvent k
    else s

/-! ## The rear -/

/-- The index of the route section of the rear is taken from a report, from a rebind's announcement, or at dispatch
from the position in force, whose front and rear both lie on the route (R28, R170, log 19). -/
def P60.noteRear (s : P60) (k : SlotId) : P60 :=
  match s.liveOrder? k with
  | none => s
  | some o =>
    let i := indexIn (s.rearSec k) o.route
    if i = 0 ∨ indexIn (s.frontSec k) o.route = 0 then s
    else s.updProgress k (fun p => { p with rearIndex := i })

/-! ## Grants by hand-over -/

/-- A section handed over to a slot in which no pass is made (R135). -/
def P60.keepOrReturn (s : P60) (k : SlotId) (n : Nat) : P60 :=
  match s.liveOrder? k with
  | some o =>
    match o.state with
    | .suspended _ _ =>
      if s.standing k && !(s.slot k).motion.releaseAhead then s.releaseRequest n (.slot k) else s
    | _ => s
  | none =>
    if s.standing k then s.releaseRequest n (.slot k)
    else s.updMotion k (fun m => { m with returnDue := true })

/-- The route section of slot k's order that is section n. -/
def P60.stepFor? (s : P60) (k : SlotId) (n : Nat) : Option RouteStep :=
  (s.liveOrder? k).bind (fun o => (s.stepsOf o).find? (fun t => t.sec == n))

/-- A hand-over check on section n: the first waiter is granted it, or a throw to its leg is asked for
(R23). -/
def P60.handOver (s : P60) (n : Nat) : P60 :=
  match s.section? n with
  | none => s
  | some r =>
    match r.waiters.head? with
    | none => s
    | some k =>
      match s.stepFor? k n with
      | none => s
      | some st =>
        if s.grantable n st.leg then
          let s := (s.grant k n st.entry st.leg).updProgress k (fun p => { p with wait := none })
          if s.mayPass k then s.pass k else s.keepOrReturn k n
        else s.askThrow n st.leg

end Sys2Proof.Machine
end

