-- ==== Sys2Proof/Machine/Movement.lean ====
section
/-! DEFINITION. Changes of an order's state and what they bring: suspension (R72, R132 to R134), finish
(R75, R120, R136), moving on (R125), and an overdue passage (R131). -/

namespace Sys2Proof.Machine

/-! ## Giving back the track -/

/-- The route sections after the front's, in route order; none when the front's section is not on the route
(R133, log 54). -/
def P60.stepsAhead (s : P60) (k : SlotId) (o : Order) : List RouteStep :=
  let fi := indexIn (s.frontSec k) o.route
  if fi = 0 then [] else (s.stepsOf o).drop fi

/-- A release ahead: a release request for each owned route section after the front's, and the reach
lowered to 0 (R133, R93). -/
def P60.releaseAheadNow (s : P60) (k : SlotId) : P60 :=
  match s.liveOrder? k with
  | none => s
  | some o =>
    ((s.updMotion k (fun m => { m with releaseAhead := false })).releaseAll
      ((s.stepsAhead k o).map (·.sec)) (.slot k)).lowerReach k 0

/-- The sections of slot k's run: its route from the route index to the reach (R87). -/
def P60.runSections (s : P60) (k : SlotId) : List Nat :=
  match s.liveOrder? k with
  | none => []
  | some o => (stepsBetween (s.stepsOf o) (o.routeIndex - 1) (s.slot k).progress.reach).map (·.sec)

/-- The track that a finished order leaves to its slot: the auto-release flags of its standing sections are
cleared (R36), and every other section it owns is asked back, but those kept (R136). -/
def P60.giveBack (s : P60) (k : SlotId) (kept : List Nat) : P60 :=
  let s := s.updMotion k (fun m => { m with returnDue := false })
  let standing := (s.ownedBy k).filter (s.overlaps k)
  let others := (s.ownedBy k).filter (fun n => !s.overlaps k n && !kept.contains n)
  let s := standing.foldl (fun s n =>
    s.updSection n (fun r => { r with occ := r.occ.mapHolding (fun h => { h with autoRelease := false }) })) s
  s.releaseAll others (.slot k)

/-- What R136 does when a slot becomes IDLE at the end of an order. -/
def P60.returnToIdle (s : P60) (k : SlotId) : P60 := (s.becomeIdle k).giveBack k []

/-- What R136 left to a standing report: the return to IDLE, or, where the slot has an order again, its track
alone, with that order's run kept (R91, R121, log 42). -/
def P60.payReturn (s : P60) (k : SlotId) : P60 :=
  if (s.liveOrder? k).isSome then s.giveBack k (s.runSections k) else s.returnToIdle k

/-! ## Suspension -/

/-- The stage a SUSPENDED order keeps: its docking stage, or SETTING (R72). -/
def Stage.resumed (g : Stage) : Stage := if g.isDocking then g else .setting

/-- The docking record of an order suspended in docking: timer stopped, awaiting NONE, nothing due; order
and pad kept (R151). -/
def Docking.halt (d : Docking) : Docking :=
  { d with awaiting := .none, due := .none, timer := .stopped, transmitted := false }

/-- Slot k's ACTIVE order enters SUSPENDED with a reason: ORDER_FINISHED is raised (R72), the wait is
withdrawn (R95), the timers stop (R132, R151), the slot is IDLE (R121), and the release ahead is made or
held pending (R133, R134). -/
def P60.suspendNow (s : P60) (k : SlotId) (o : Order) (g : Stage) (c : Cause) : P60 :=
  let s := (s.setOrderState o.id (.suspended g.resumed c)).raise .orderFinished
  let s := (s.withdrawWait k).stopTimerSuspended k
  let s := (s.updDocking k Docking.halt).becomeIdle k
  if s.standing k then s.releaseAheadNow k
  else s.updMotion k (fun m => { m with releaseAhead := true })

/-- A suspension cause taken by the order of slot k (R72). -/
def P60.suspensionCause (s : P60) (k : SlotId) (c : Cause) : P60 :=
  match s.activeOrder? k with
  | none => s
  | some (o, g, stop) =>
    match g, stop with
    | .running, _ => s.setStage k .stopping (some c)
    | .stopping, none => s.setStage k .stopping (some c)
    | .stopping, some _ => s
    | g, _ => s.suspendNow k o g c

/-- LINK_LOST suspends an ACTIVE order at once in every stage; a stop reason already present is the
reason it takes (R72). -/
def P60.linkLost (s : P60) (k : SlotId) : P60 :=
  match s.activeOrder? k with
  | none => s
  | some (o, g, stop) => s.suspendNow k o g (stop.getD .linkLost)

/-- A suspension cause handed to every ACTIVE order, by slot number (R186, R189; log 26). -/
def P60.suspendAll (s : P60) (c : Cause) : P60 := allSlots.foldl (fun s k => s.suspensionCause k c) s

/-! ## Finish -/

/-- The list's part of a finish: state and reason, the promise freed, ORDER_FINISHED raised, a scan
triggered (R75, R76). -/
def P60.listFinish (s : P60) (id : Nat) (st : OrderState) : P60 :=
  ((s.updOrder id (fun o => { o with state := st, promise := false })).raise .orderFinished).trigger

/-- The route progress record is closed (R87), with the wait withdrawn (R95). -/
def P60.closeProgress (s : P60) (k : SlotId) : P60 := (s.withdrawWait k).updProgress k (fun _ => .closed)

/-- The authority record is emptied when the route progress record is closed: a GIVEN record sends BRAKE
(R120). -/
def P60.emptyAuthority (s : P60) (k : SlotId) : P60 :=
  match (s.slot k).authority.state with
  | .given _ => (s.dropAuthority k).sendBrake k
  | _ => s.dropAuthority k

/-- What a slot does when its ACTIVE or SUSPENDED order has finished (R132, R136, R143). A SUSPENDED order's
slot is already IDLE (log 20). -/
def P60.endOrder (s : P60) (k : SlotId) (wasActive : Bool) : P60 :=
  let s := ((s.closeProgress k).emptyAuthority k).stopTimerFinished k
  let s := s.updDocking k (fun _ => .initial)
  let s := s.updMotion k (fun m => { m with releaseAhead := false })
  if (s.slot k).status = .lost then s.updMotion k (fun m => { m with returnDue := true })
  else if s.standing k || !wasActive then s.returnToIdle k
  else (s.setStatus k .stopping).updMotion k (fun m => { m with returnDue := true })

/-- An order that is not finished enters a finished state; one already finished is left as it is (R75). -/
def P60.finishOrder (s : P60) (o : Order) (st : OrderState) : P60 :=
  match o.state with
  | .queued => s.listFinish o.id st
  | .active _ _ => (s.listFinish o.id st).endOrder o.slot true
  | .suspended _ _ => (s.listFinish o.id st).endOrder o.slot false
  | _ => s

/-- The ACTIVE or SUSPENDED order of slot k finishes. -/
def P60.finishLive (s : P60) (k : SlotId) (st : OrderState) : P60 :=
  match s.liveOrder? k with
  | none => s
  | some o => s.finishOrder o st

/-! ## Moving on -/

/-- The order is moved on after a braking or a hold: RUNNING, with its pass, the re-issue of the authority,
and WAITING if there is none (R125). -/
def P60.moveOn (s : P60) (k : SlotId) : P60 :=
  let s := ((s.setStage k .running none).passEvent k).reissue k
  let s := s.updMotion k (fun m => { m with resent := true })
  if (s.slot k).authority.state = .none then s.setStage k .waiting none else s

/-- A passage is overdue: the timer stops with cause OVERDUE, BRAKE is requested, the cause OVERDUE is
handed to the list, and OVERDUE is raised (R131). -/
def P60.overdue (s : P60) (k : SlotId) : P60 :=
  let s := s.updTimer k (fun t => { t with state := .stopped, cause := .overdue, count := t.period })
  ((s.brakeRequest k).suspensionCause k .overdue).raise .overdue

end Sys2Proof.Machine
end

