-- ==== Sys2Proof/Machine/Docking.lean ====
section
/-! DEFINITION. The docking sequencer: stage commands, arrivals, the reports that end stages, failures at
the pad, displacement and resumption (chapter 8). Custody itself moves when its write ends (R141). -/

namespace Sys2Proof.Machine

/-- The limit on DOCK_UNCLAMP and DOCK_CLAMP (R143). -/
def clampLimit : Nat := 20000

/-- The limit on DOCK_LIFT and DOCK_LOWER (R143). -/
def liftLimit : Nat := 90000

/-! ## Stage commands -/

/-- A stage command has been handed to its link: its ending report is awaited under the stage's limit,
the timer PAUSED while the slot is LOST (R143). -/
def P60.await (s : P60) (k : SlotId) (a : Awaiting) (limit : Nat) : P60 :=
  s.updDocking k (fun d =>
    { d with
      awaiting := a
      due := .none
      timer := if (s.slot k).status = .lost then .paused limit else .running limit
      transmitted := false })

/-- Sends PAD_UNLOCK: DOCK_UNCLAMP (R144, R145). -/
def P60.sendPadUnlock (s : P60) (k : SlotId) : P60 :=
  ((s.setStage k .dockUnclamp none).await k .unlocked clampLimit).commandTo .pad
    (s.slot k).docking.pad .padUnlock

/-- Sends LIFT: DOCK_LIFT (R145). -/
def P60.sendLift (s : P60) (k : SlotId) : P60 :=
  ((s.setStage k .dockLift none).await k .lifted liftLimit).hand k .docking .lift

/-- Sends LOWER: DOCK_LOWER (R144). -/
def P60.sendLower (s : P60) (k : SlotId) : P60 :=
  ((s.setStage k .dockLower none).await k .lowered liftLimit).hand k .docking .lower

/-- Sends PAD_LOCK, never withheld: DOCK_CLAMP (R147). -/
def P60.sendPadLock (s : P60) (k : SlotId) : P60 :=
  ((s.setStage k .dockClamp none).await k .locked clampLimit).commandTo .pad
    (s.slot k).docking.pad .padLock

/-- A stage waits with its command due and its timer STOPPED (R144). -/
def P60.withhold (s : P60) (k : SlotId) (g : Stage) (c : CommandDue) : P60 :=
  (s.setStage k g none).updDocking k (fun d =>
    { d with awaiting := .none, due := c, timer := .stopped, transmitted := false })

/-- PAD_UNLOCK, withheld while the wind-hold input is asserted (R144). -/
def P60.padUnlockOrWait (s : P60) (k : SlotId) : P60 :=
  if s.windInput then s.withhold k .dockArrive .padUnlock else s.sendPadUnlock k

/-- PAD_UNLOCK of a stage resumed in DOCK_UNCLAMP, withheld in its stage (R144, R151). -/
def P60.padUnlockAgain (s : P60) (k : SlotId) : P60 :=
  if s.windInput then s.withhold k .dockUnclamp .padUnlock else s.sendPadUnlock k

/-- LIFT, withheld while the wind-hold input is asserted (R145). -/
def P60.liftOrWait (s : P60) (k : SlotId) : P60 :=
  if s.windInput then s.withhold k .dockLift .lift else s.sendLift k

/-- LOWER, withheld while the wind-hold input is asserted (R144). -/
def P60.lowerOrWait (s : P60) (k : SlotId) : P60 :=
  if s.windInput then s.withhold k .dockLower .lower else s.sendLower k

/-- Sends the command that a record has due (R144). -/
def P60.sendDue (s : P60) (k : SlotId) : P60 :=
  match (s.slot k).docking.due with
  | .none => s
  | .padUnlock => s.sendPadUnlock k
  | .lift => s.sendLift k
  | .lower => s.sendLower k

/-- The wind-hold input is deasserted: each record with a command due whose order is ACTIVE sends it, a
LOST slot's excepted (R144, R151). -/
def P60.sendAllDue (s : P60) : P60 :=
  allSlots.foldl (fun s k =>
    if (s.activeOrder? k).isSome && (s.slot k).status != .lost then s.sendDue k else s) s

/-! ## Arrival and resumption -/

/-- What an arrival, or a resumption in DOCK_ARRIVE, does by the order's kind (R144, R151). -/
def P60.beginDocking (s : P60) (k : SlotId) (o : Order) : P60 :=
  match o.kind with
  | .fetch => s.padUnlockOrWait k
  | .deliver => s.lowerOrWait k
  | .run => s

/-- An arrival in the window: DOCK_ARRIVE, and what follows at once (R123, R144). -/
def P60.arrive (s : P60) (k : SlotId) (o : Order) : P60 :=
  ((s.setStage k .dockArrive none).updDocking k (fun _ =>
    { Docking.initial with order := o.id, pad := o.pad })).beginDocking k o

/-- A front outside the docking window about the pad's stop point (R150, R151, log 29). -/
def P60.outsideWindow (s : P60) (k : SlotId) (o : Order) : Bool :=
  match s.planPad? o.pad with
  | none => true
  | some p =>
    let t := ((s.planSection? p.spur).map (·.length)).getD 0
    !(s.frontSec k == p.spur &&
      inWindow ((p.stopOffset : Int) - (min (s.slot k).front.off.toNat t : Nat)))

/-- The order fails as TRANSPORTER_FAULT, the slot's fault flag set (R150). -/
def P60.failTransporter (s : P60) (k : SlotId) : P60 :=
  (s.setFault k .transporterFault).finishLive k (.failed .transporterFault)

/-- Displacement: BRAKE is requested and the order fails (R150). -/
def P60.displaced (s : P60) (k : SlotId) : P60 := (s.brakeRequest k).failTransporter k

/-- The stage's command is sent again, its timer at its full limit (R151). -/
def P60.resumeStage (s : P60) (k : SlotId) (o : Order) (g : Stage) : P60 :=
  match g with
  | .dockArrive => s.beginDocking k o
  | .dockUnclamp => s.padUnlockAgain k
  | .dockLift => s.liftOrWait k
  | .dockLower => s.lowerOrWait k
  | .dockClamp => s.sendPadLock k
  | _ => s

/-- A resumption in a docking stage (R151). -/
def P60.resumeDocking (s : P60) (k : SlotId) (o : Order) (g : Stage) : P60 :=
  if s.outsideWindow k o then s.displaced k else s.resumeStage k o g

/-! ## Clamp reports -/

/-- The slot whose ACTIVE order is in docking at pad n. -/
def P60.dockingAt? (s : P60) (n : Nat) : Option SlotId :=
  allSlots.find? (fun k =>
    match s.activeOrder? k with
    | some (o, g, _) => o.pad == n && g.isDocking
    | none => false)

/-- The ACTIVE or SUSPENDED order in docking at pad n (R153). -/
def P60.orderInDocking? (s : P60) (n : Nat) : Option Order :=
  s.orders.find? (fun o => o.pad == n && (o.state.stage?.any Stage.isDocking))

def P60.pad? (s : P60) (n : Nat) : Option PadRec := s.pads.find? (fun r => r.num == n)

def P60.updPad (s : P60) (n : Nat) (f : PadRec → PadRec) : P60 :=
  { s with pads := s.pads.map (fun r => if r.num = n then f r else r) }

/-- The clamp state a report gives (R140). -/
def clampOf : ClampValue → Clamp
  | .locked => .locked
  | .unlocked => .unlocked
  | .fault => .fault

/-- The stage's awaited report has come: the timer stops and awaiting is NONE (R145 to R148). -/
def P60.endStage (s : P60) (k : SlotId) : P60 := s.updDocking k Docking.halt

/-- A docking record awaits a report, its command transmitted (R143). -/
def Docking.expects (d : Docking) (a : Awaiting) : Bool := d.awaiting == a && d.transmitted

/-- What a clamp report does to the ACTIVE order in docking at its pad (R145, R148, R149). -/
def P60.clampActs (s : P60) (k : SlotId) (v : ClampValue) : P60 :=
  match v with
  | .fault => s.finishLive k (.failed .padFault)
  | .unlocked => if (s.slot k).docking.expects .unlocked then (s.endStage k).liftOrWait k else s
  | .locked => if (s.slot k).docking.expects .locked then (s.endStage k).finishLive k .done else s

/-- A clamp report of pad n (R140). -/
def P60.clampReport (s : P60) (n : Nat) (v : ClampValue) : P60 :=
  let s := s.updPad n (fun r => { r with clamp := clampOf v, lastReport := some s.clock })
  match s.dockingAt? n with
  | none => s
  | some k => s.clampActs k v

/-- A pad clamp interface falls silent (R140). -/
def P60.clampSilent (s : P60) (n : Nat) : P60 := s.updPad n (fun r => { r with clamp := .unknown })

/-! ## The stage timer -/

/-- The result of an order whose stage timer runs out (R149). -/
def stageTimeout (g : Stage) : FailReason :=
  match g with
  | .dockLift | .dockLower => .liftTimeout
  | _ => .padTimeout

/-- The stage timer runs out (R149). -/
def P60.stageExpires (s : P60) (k : SlotId) : P60 :=
  match s.activeStage? k with
  | none => s
  | some g => if g.isDocking then s.finishLive k (.failed (stageTimeout g)) else s

/-! ## LIFTED and LOWERED -/

/-- Sets a slot's reported load (R142). -/
def P60.setLoad (s : P60) (k : SlotId) (present : Bool) : P60 :=
  s.updSlot k (fun x => { x with reportedLoad := present })

/-- An unawaited LIFTED or LOWERED (R152). -/
def P60.unawaited (s : P60) (k : SlotId) (present : Bool) : P60 :=
  let s := s.setLoad k present
  if s.loadAgrees k then s else s.setFault k .loadMismatch

/-- LIFTED from slot k: the transfer's write begins if it is awaited and its command has been transmitted (R141,
R143, R146); otherwise it is unawaited (R152, log 55). -/
def P60.liftedReport (s : P60) (k : SlotId) : P60 :=
  match s.activeOrder? k, (s.slot k).ident with
  | some (o, .dockLift, _), some i =>
    if (s.slot k).docking.expects .lifted then
      let s := s.endStage k
      { s with writes := s.writes ++ [.lifted k i o.id o.telescope] }
    else s.unawaited k true
  | _, _ => s.unawaited k true

/-- LOWERED from slot k, as LIFTED (R141, R143, R147, R152, log 55). -/
def P60.loweredReport (s : P60) (k : SlotId) : P60 :=
  match s.activeOrder? k, (s.slot k).ident with
  | some (o, .dockLower, _), some i =>
    if (s.slot k).docking.expects .lowered then
      let s := s.endStage k
      { s with writes := s.writes ++ [.lowered k i o.id o.telescope o.pad] }
    else s.unawaited k false
  | _, _ => s.unawaited k false

end Sys2Proof.Machine
end

