-- ==== Sys2Proof/Machine/Holds.lean ====
section
/-! DEFINITION. The hold unit: wind holds, feeders and their held sets, the emergency stop and the silence
timer (chapter 10), with what the movement supervisor does at a hold's beginning (R126). -/

namespace Sys2Proof.Machine

/-! ## Holds -/

/-- The wind policy for a slot's present load state (R178). -/
def P60.policyFor (s : P60) (k : SlotId) : HoldPolicy :=
  if s.laden k then s.ladenPolicy else s.unladenPolicy

/-- The wind hold that the input, the policies and the load state give a slot (R178). -/
def P60.windHoldNow (s : P60) (k : SlotId) : Option HoldPolicy :=
  if s.windInput && (s.slot k).bound && s.policyFor k != .proceed then some (s.policyFor k) else none

/-- The slot is held, by wind or by a feeder (R178). -/
def P60.holdNow (s : P60) (k : SlotId) : Bool := (s.windHoldNow k).isSome || s.feederHeld k

/-- A hold begins: an order in SETTING or WAITING, or in RUNNING and standing, is HELD at once (R126). For a
LOST slot the movement supervisor does nothing (R137, log 21). -/
def P60.holdBegins (s : P60) (k : SlotId) : P60 :=
  if (s.slot k).status = .lost then s
  else
    match s.activeStage? k with
    | some .setting | some .waiting => s.setStage k .held none
    | some .running => if s.standing k then s.setStage k .held none else s
    | _ => s

/-- A slot's ACTIVE order outside docking. -/
def P60.heldStage? (s : P60) (k : SlotId) : Option Stage :=
  (s.activeStage? k).filter (fun g => !g.isDocking)

/-- What the hold unit asks at the beginning of a wind hold (R179). -/
def P60.windHoldActs (s : P60) (k : SlotId) (p : HoldPolicy) : P60 :=
  match s.heldStage? k, p with
  | some _, .stopNow => s.brakeRequest k
  | some .running, .atBoundary =>
    if s.standing k then s else (s.cutBack k).setStage k .stopping none
  | _, _ => s

/-- A hold has ended: a HELD order is moved on (R180). -/
def P60.holdEnds (s : P60) (k : SlotId) : P60 :=
  if (s.slot k).status ≠ .lost ∧ s.activeStage? k = some .held then s.moveOn k else s

/-- What follows a change of a slot's wind hold from `was` to `now` (R179, R181, log 31). -/
def P60.windChange (s : P60) (k : SlotId) (was now : Option HoldPolicy) : P60 :=
  match was, now with
  | none, some p => s.windHoldActs k p
  | some .atBoundary, some .stopNow => s.windHoldActs k .stopNow
  | _, _ => s

/-- A slot's two hold conditions are judged again; the movement supervisor is told of the hold's beginning
or end and of a change of pause-at-once, and the wind policy acts (R178 to R181). -/
def P60.rejudgeHold (s : P60) (k : SlotId) : P60 :=
  let x := s.slot k
  let wind := s.windHoldNow k
  let held := s.holdNow k
  let s := s.updSlot k (fun x => { x with windHold := wind, held })
  let s := if held && !x.held then s.holdBegins k else s
  let s := (s.judgeTimer k).windChange k x.windHold wind
  if x.held && !held then s.holdEnds k else s

/-- Every slot's hold is judged again, by slot number (log 26). -/
def P60.rejudgeHolds (s : P60) : P60 := allSlots.foldl P60.rejudgeHold s

/-! ## Feeders -/

def P60.feeder (s : P60) (f : FeederId) : Feeder := s.feeders.get f

def P60.updFeeder (s : P60) (f : FeederId) (g : Feeder → Feeder) : P60 :=
  { s with feeders := s.feeders.set f (g (s.feeder f)) }

def P60.setFeederState (s : P60) (f : FeederId) (st : FeederState) : P60 :=
  s.updFeeder f (fun x => { x with state := st })

/-- The restore delay (R182). -/
def restoreDelay : Nat := 1500

/-- The trip window (R183). -/
def tripWindow : Nat := 60000

/-- Section n is on feeder f by the plan. -/
def P60.onFeeder (s : P60) (f : FeederId) (n : Nat) : Bool :=
  (s.planSection? n).any (fun p => p.feeder == f)

/-- Slot k joins feeder f's held set: its hold begins if it was not held, and BRAKE is requested (R184). -/
def P60.joinHeld (s : P60) (k : SlotId) (f : FeederId) : P60 :=
  if (s.feeder f).held.contains k then s
  else ((s.updFeeder f (fun x => { x with held := x.held ++ [k] })).rejudgeHold k).brakeRequest k

/-- The sections of a slot's overlap, each once. -/
def P60.overlapSections (s : P60) (k : SlotId) : List Nat :=
  match (s.slot k).overlap with
  | none => []
  | some (f, r) => if f = r then [f] else [f, r]

/-- A feeder that holds slots coming over its sections: TRIPPED, RESTORING or LOCKOUT (R184). -/
def FeederState.holds : FeederState → Bool
  | .tripped | .restoring _ | .lockout => true
  | _ => false

/-- Slot k's overlap has come to include sections it did not include before: it joins the held sets of
their feeders that hold. A section named before the plan came ACTIVE counts as included before (R184, log 51). -/
def P60.joinByOverlap (s : P60) (k : SlotId) (before : List Nat) : P60 :=
  allFeeders.foldl (fun s f =>
    if (s.feeder f).state.holds &&
        (s.overlapSections k).any (fun n => !before.contains n && s.onFeeder f n)
    then s.joinHeld k f else s) s

/-- A counted trip's slots: those whose overlap includes a section of the feeder (R184). -/
def P60.joinTripped (s : P60) (f : FeederId) : P60 :=
  allSlots.foldl (fun s k => if (s.overlapSections k).any (s.onFeeder f) then s.joinHeld k f else s) s

/-- A feeder's held set is emptied, and its slots' holds are judged again, in the order in which they joined (R184,
R180, log 58). -/
def P60.emptyHeld (s : P60) (f : FeederId) : P60 :=
  (s.feeder f).held.foldl P60.rejudgeHold (s.updFeeder f (fun x => { x with held := [] }))

/-- The trip history and state after a counted trip (R183). -/
def P60.countTrip (s : P60) (f : FeederId) : P60 :=
  s.updFeeder f (fun x =>
    if x.trips = 0 ∨ tripWindow < s.elapsed x.firstTrip then
      { x with firstTrip := s.clock, trips := 1, state := .tripped }
    else if x.trips = 1 then { x with trips := 2, state := .tripped }
    else { x with trips := 3, state := .lockout })

/-- An assertion of a feeder's overcurrent input (R182). -/
def P60.overcurrent (s : P60) (f : FeederId) : P60 :=
  let wasOn := s.outputOn f
  let s := s.updFeeder f (fun x => { x with input := true })
  match (s.feeder f).state with
  | .enabled => if wasOn then (s.countTrip f).joinTripped f else s.setFeederState f .tripped
  | .restoring _ | .starting _ => s.setFeederState f .tripped
  | .tripped | .lockout => s

/-- A deassertion of a feeder's overcurrent input (R182). -/
def P60.overcurrentGone (s : P60) (f : FeederId) : P60 :=
  let s := s.updFeeder f (fun x => { x with input := false })
  match (s.feeder f).state with
  | .tripped => s.setFeederState f (.restoring restoreDelay)
  | _ => s

/-- A feeder becomes ENABLED: its held set is emptied, and if its output has come on its sections are owed
hand-over checks (R182, R184). -/
def P60.enableFeeder (s : P60) (f : FeederId) : P60 :=
  let s := (s.setFeederState f .enabled).emptyHeld f
  if s.estop then s else s.oweFeederChecks f

/-- A feeder's restore timer runs out (R182). -/
def P60.restoreExpires (s : P60) (f : FeederId) : P60 :=
  match (s.feeder f).state with
  | .restoring _ | .starting _ => s.enableFeeder f
  | _ => s

/-! ## Stops -/

/-- The emergency-stop input is asserted in NORMAL: ESTOP, ALL_STOP, and the cause ESTOP for every ACTIVE
order; in ESTOP it changes nothing (R186). -/
def P60.enterEstop (s : P60) : P60 :=
  if s.estop then s else ({ s with estop := true }.allStopRequest).suspendAll .estop

/-- The unit returns to NORMAL: the outputs of the ENABLED feeders come on (R187). -/
def P60.leaveEstop (s : P60) : P60 :=
  allFeeders.foldl (fun s f => if (s.feeder f).state = .enabled then s.oweFeederChecks f else s)
    { s with estop := false }

/-- The silence timer is restarted (R189). -/
def Silence.restarted (t : Silence) : Silence :=
  { t with
    state := .armed
    applied := t.pending.getD t.applied
    pending := none
    remaining := t.pending.getD t.applied }

/-- The silence timer expires (R189). -/
def P60.silenceExpires (s : P60) : P60 :=
  ((({ s with silence := { s.silence with state := .expired, remaining := 0 } }.allStopRequest).suspendAll
    .silence).raise .silenceStop)

end Sys2Proof.Machine
end

