-- ==== Sys2Proof/Machine/Roster.lean ====
section
/-! DEFINITION. The roster: admission, binding, adoption, rebinding, loss, freeing and strangers
(sections 9.3 to 9.6). -/

namespace Sys2Proof.Machine

/-! ## Announced figures -/

/-- The applied figures of an announcement, with a flag for each that was clamped (R160, R167). -/
def figuresOf (a : Announcement) : Figures :=
  let length := clampTo 8000 30000 a.length.toNat
  let speed := fun (v : Half) => clampTo 100 1500 v.toNat
  let decel := fun (v : Half) => clampTo 20 500 v.toNat
  { length
    ladenSpeed := speed a.ladenSpeed
    ladenDecel := decel a.ladenDecel
    unladenSpeed := speed a.unladenSpeed
    unladenDecel := decel a.unladenDecel
    clamped :=
      [length != a.length.toNat, speed a.ladenSpeed != a.ladenSpeed.toNat,
        decel a.ladenDecel != a.ladenDecel.toNat, speed a.unladenSpeed != a.unladenSpeed.toNat,
        decel a.unladenDecel != a.unladenDecel.toNat] }

/-- Writes what an announcement says of a slot's transporter (R167, R170). -/
def Slot.announced (x : Slot) (a : Announcement) : Slot :=
  { x with
    model := a.model
    revision := a.revision
    figures := figuresOf a
    reportedLoad := a.loadPresent
    announcedFront := a.front
    announcedRear := a.rear
    front := a.front
    rear := a.rear
    speed := 0 }

/-- An acceptance entry matches an announcement (R166). -/
def entryMatches (e : AcceptEntry) (a : Announcement) : Bool :=
  e.maker.all (· == a.ident.maker) && e.model.all (· == a.model) && e.revision.all (· == a.revision)

/-- The acceptance list admits an announcement; an empty list admits every one (R165). -/
def P60.admits (s : P60) (a : Announcement) : Bool :=
  s.nvm.acceptance.isEmpty || s.nvm.acceptance.any (entryMatches · a)

/-! ## Adoption -/

/-- The slot state that R121's table gives for a slot's order (R168). -/
def P60.statusByOrder (s : P60) (k : SlotId) : SlotState :=
  match s.activeStage? k with
  | some g => stageStatus g .idle
  | none => .idle

/-- Adoption of the sections of a front and a rear. Adopted, a slot takes the state its order gives, and
one whose state becomes IDLE, or that leaves CONFLICT, brings a scan; `none` answers conflict (R168). -/
def P60.adoption (s : P60) (k : SlotId) (f r : Nat) : Option P60 :=
  let before := s.overlapSections k
  let was := (s.slot k).status
  (s.adopt? k f r).map (fun s =>
    let now := s.statusByOrder k
    let s := s.updSlot k (fun x => { x with status := now })
    let s := if was != now && (now == .idle || was == .conflict) then s.trigger else s
    s.joinByOverlap k before)

/-- Adoption at rebinding: the announced sections, CONFLICT if they cannot be had, the overlap read as
announced all the same, so that the slot joins the held sets of what it newly names (R168, R170 step 2,
R184). -/
def P60.adoptAnnounced (s : P60) (k : SlotId) : P60 :=
  match s.adoption k (s.frontSec k) (s.rearSec k) with
  | some s => s
  | none =>
    (s.updSlot k (fun x =>
      { x with status := .conflict, overlap := some (x.front.sec.toNat, x.rear.sec.toNat) })).joinByOverlap k
      (s.overlapSections k)

/-- The retry at a standing report, for a slot in CONFLICT or one that does not own each section of its
overlap (R168). -/
def P60.retryAdoption (s : P60) (k : SlotId) : P60 :=
  let st := (s.slot k).status
  if st = .conflict ∨ (st ≠ .lost ∧ (s.overlapSections k).any (fun n => !s.owns k n)) then
    match s.adoption k (s.frontSec k) (s.rearSec k) with
    | some s => if st = .conflict then s.joinChangeSet k else s
    | none => s
  else s

/-- Load reconciliation at binding and rebinding (R169). -/
def P60.reconcileLoad (s : P60) (k : SlotId) : P60 :=
  if s.loadAgrees k then s else s.setFault k .loadMismatch

/-! ## Binding -/

/-- BIND enters a slot's bind place (R167, R170). -/
def P60.placeBind (s : P60) (k : SlotId) : P60 :=
  s.updSlot k (fun x => { x with peer := x.peer.map (fun p => p.put .bind (.bind k)) })

/-- Binding to an EMPTY slot (R167). -/
def P60.bindSlot (s : P60) (k : SlotId) (a : Announcement) : P60 :=
  let s := s.setSlot k
    { Slot.initial.announced a with ident := some a.ident, peer := some .fresh, status := .conflict }
  let s := s.placeBind k
  let s := match s.adoption k (s.frontSec k) (s.rearSec k) with
    | some s => s
    | none => s
  ((s.reconcileLoad k).joinChangeSet k).rejudgeHold k

/-- The lowest-numbered EMPTY slot (R165). -/
def P60.emptySlot? (s : P60) : Option SlotId := allSlots.find? (fun k => (s.slot k).status == .empty)

/-- Every place emptied, the attempt abandoned, the failure count 0; the tags count on (R161, R170). -/
def Peer.cleared (p : Peer) : Peer :=
  { p with
    failures := 0, attempt := none, bind := none, motion := none, docking := none, standDown := none,
    poll := none, lastPoll := none }

/-- The stage timer runs again from its remaining time when the slot is rebound (R143). -/
def StageTimer.resumed : StageTimer → StageTimer
  | .paused n => .running n
  | t => t

/-- The stage timer is PAUSED while the slot is LOST (R143). -/
def StageTimer.held : StageTimer → StageTimer
  | .running n => .paused n
  | t => t

/-- Rebinding (R170). The announced rear is the one that R28 reads from now on. -/
def P60.rebindSlot (s : P60) (k : SlotId) (a : Announcement) : P60 :=
  let s := (s.updSlot k (fun x => { x.announced a with peer := x.peer.map Peer.cleared })).noteRear k
  let s := s.updMotion k (fun m => { m with standing := false, resent := false })
  let s := s.updDocking k (fun d => { d with timer := d.timer.resumed })
  let s := (s.linkLost k).placeBind k
  ((((s.adoptAnnounced k).reconcileLoad k).joinChangeSet k).judgeTimer k).rejudgeHold k

/-! ## Loss and freeing -/

/-- A slot goes LOST (R164, R95, R122, R137, R143). -/
def P60.loseSlot (s : P60) (k : SlotId) : P60 :=
  let s := s.updSlot k (fun x =>
    { x with status := .lost, peer := x.peer.map (fun p => { p.cleared with failures := 3 }) })
  let s := (s.withdrawWait k).updMotion k (fun m => { m with standing := false, resent := false })
  let s := s.updDocking k (fun d => { d with timer := d.timer.held })
  (s.judgeTimer k).joinChangeSet k

/-- A slot leaves every feeder's held set (R184). -/
def P60.leaveHeldSets (s : P60) (k : SlotId) : P60 :=
  allFeeders.foldl (fun s f => s.updFeeder f (fun x => { x with held := x.held.erase k })) s

/-- A slot's order becomes FAILED(SLOT_RELEASED) as it is freed; its records are closed below (R174,
log 36). -/
def P60.failReleased (s : P60) (k : SlotId) : P60 :=
  match s.liveOrder? k with
  | none => s
  | some o => s.listFinish o.id (.failed .slotReleased)

/-- Freeing a slot (R174, R102). -/
def P60.freeSlot (s : P60) (k : SlotId) : P60 :=
  let s := s.failReleased k
  let s := s.releaseAll (s.ownedBy k) (.slot k)
  (((s.withdrawWait k).setSlot k .initial).leaveHeldSets k).joinChangeSet k

/-- RELEASE_SLOT: a slot not LOST is first sent STAND_DOWN once, with the tag that counts on from its peer's last
(R175, which names no tag; log 61). -/
def P60.releaseSlotNow (s : P60) (k : SlotId) : P60 :=
  let s := match (s.slot k).ident, (s.slot k).peer with
    | some i, some p => if (s.slot k).status = SlotState.lost then s else s.sendOnce i p .standDown
    | _, _ => s
  s.freeSlot k

/-- DEPART from a bound slot (R172). -/
def P60.departs (s : P60) (k : SlotId) : P60 :=
  if (s.slot k).status = .idle ∧ ¬ s.laden k ∧ (s.liveOrder? k).isNone then s.freeSlot k else s

/-- A FAULT report handed to the roster (R169). -/
def P60.rosterFault (s : P60) (k : SlotId) : P60 :=
  let s := s.setFault k .transporterFault
  if (s.activeOrder? k).isSome then s.finishLive k (.failed .transporterFault) else s

/-- A FAULT report from slot k. Of a SUSPENDED order in docking it sets the fault flag alone, as the roster
does (R163, R150, R169). -/
def P60.faultReport (s : P60) (k : SlotId) (code : Byte) : P60 :=
  let s := s.updSlot k (fun x => { x with lastFault := code })
  match s.activeOrder? k with
  | some (_, g, _) => if g.isDocking then s.failTransporter k else s.rosterFault k
  | none => s.rosterFault k

/-! ## Strangers -/

def P60.stranger? (s : P60) (i : Identity) : Option Stranger := s.strangers.find? (fun x => x.ident == i)

def P60.updStranger (s : P60) (i : Identity) (f : Stranger → Stranger) : P60 :=
  { s with strangers := s.strangers.map (fun x => if x.ident = i then f x else x) }

def P60.dropStranger (s : P60) (i : Identity) : P60 :=
  { s with strangers := s.strangers.filter (fun x => x.ident != i) }

/-- STAND_DOWN enters a stranger's stand-down place (R171). -/
def Peer.standAgain (p : Peer) : Peer := p.put .standDown .standDown

/-- An announcer becomes a stranger, recorded while there is room (R171, log 22). -/
def P60.addStranger (s : P60) (a : Announcement) (why : StrangerReason) : P60 :=
  if s.strangers.length < 8 then
    { s with
      strangers := s.strangers ++
        [⟨a.ident, a.model, a.revision, a.cls, why, s.clock, Peer.fresh.standAgain⟩] }
  else s.sendOnce a.ident .fresh .standDown

/-- Judgement of an announcement (R165); a listed stranger keeps its entry (log 39). -/
def P60.judgeAnnounce (s : P60) (a : Announcement) : P60 :=
  match s.slotOf? a.ident with
  | some k => s.rebindSlot k a
  | none =>
    if (s.stranger? a.ident).isSome then
      s.updStranger a.ident (fun x => { x with peer := x.peer.standAgain })
    else if a.cls ≠ 0x21 ∨ ¬ s.admits a then s.addStranger a .unaccepted
    else
      match s.emptySlot? with
      | some k => s.bindSlot k a
      | none => s.addStranger a .surplus

end Sys2Proof.Machine
end

