-- ==== Sys2Proof/Machine/Dispatcher.lean ====
section
/-! DEFINITION. The dispatcher: eligibility, the start check, dispatch, resumption in SETTING, and the scan
(sections 5.1, 5.2, R74, R96). -/

namespace Sys2Proof.Machine

/-! ## Eligibility -/

/-- The load precondition of a QUEUED order (R84). -/
def P60.loadReady (s : P60) (o : Order) : Bool :=
  match o.kind, (s.slot o.slot).ident with
  | .fetch, _ => !s.laden o.slot && s.location o.telescope == .pad o.pad
  | .deliver, some i => s.location o.telescope == .transporter i
  | .deliver, none => false
  | .run, _ => true

/-- An unfinished order of the slot stands earlier in the list (R84). -/
def P60.blockedBefore (s : P60) (o : Order) : Bool :=
  (s.orders.takeWhile (fun x => x.id != o.id)).any (fun x => x.slot == o.slot && !x.state.finished)

/-- A QUEUED order is eligible; a transfer that is being written is not yet in the table (R84, R141, log 52). -/
def P60.eligible (s : P60) (o : Order) : Bool :=
  o.state == .queued && s.plan?.isSome && !s.estop && s.silence.state != .expired &&
    (s.slot o.slot).status == .idle && !s.faulty o.slot && !s.blockedBefore o && s.loadReady o &&
    (!s.windInput || s.policyFor o.slot == .proceed)

/-! ## Dispatch -/

/-- A route section's turnout, if a leg is required of it, is detected in that leg (R85, R96). -/
def P60.legHolds (s : P60) (st : RouteStep) : Bool :=
  match st.leg with
  | none => true
  | some x => s.detectedIn st.sec x

/-- The start check (R85). -/
def P60.startCheck (s : P60) (o : Order) : Bool :=
  match (s.stepsOf o).head? with
  | none => false
  | some st => st.sec == s.frontSec o.slot && s.owns o.slot st.sec && s.legHolds st

/-- A slot's standing sections are taken into its route: those on it as attempts by R20, the others with
their auto-release flag set, entry end and leg absent (R36), also where a release is pending, whose entry end and leg
R26 keeps: the model's choice, log 62; in the table's order (log 26). -/
def P60.takeStanding (s : P60) (k : SlotId) (o : Order) : P60 :=
  (s.ownedBy k).foldl (fun s n =>
    match (s.stepsOf o).find? (fun t => t.sec == n) with
    | some t => (s.attempt k t).1
    | none =>
      s.updSection n (fun r =>
        { r with occ := r.occ.mapHolding (fun h =>
          { h with entry := none, leg := none, autoRelease := true }) })) s

/-- The first pass of a dispatch or resumption, or HELD in its place while the slot is held (R88, R126). -/
def P60.firstPass (s : P60) (k : SlotId) : P60 :=
  if (s.slot k).held then s.setStage k .held none else s.passEvent k

/-- Dispatch of an order that has passed the start check (R78, R86). The rear in force is read on the new route, so
that R28 judges by it before the next report (log 19). -/
def P60.dispatch (s : P60) (o : Order) : P60 :=
  let k := o.slot
  if (s.liveOrder? k).isSome then s
  else
    let s := s.updOrder o.id (fun o => { o with state := .active .setting none, routeIndex := 1 })
    let s := (s.updProgress k (fun _ => ⟨o.id, 0, none, none, 0⟩)).noteRear k
    (((s.takeStanding k o).loadTimer k o 1)).firstPass k

/-- The walk's judgement of one order, as it stands when the walk reaches it (R83). -/
def P60.judgeOrder (s : P60) (id : Nat) : P60 :=
  match s.order? id with
  | none => s
  | some o =>
    if s.eligible o then
      if s.startCheck o then s.dispatch o else s.finishOrder o (.failed .routeStart)
    else s

/-- Begins a scan: scanning is set, and the list is walked from head to tail. A trigger met during the
walk sets scan-pending (R82, R83, log 8). -/
def P60.beginScan (s : P60) : P60 :=
  let s := (s.orders.map (·.id)).foldl P60.judgeOrder { s with scanning := true, scanDue := false }
  { s with scanPending := s.scanPending || s.scanDue, scanDue := false }

/-- A scan trigger that has reached the dispatcher begins a scan, or sets scan-pending during one (R82). -/
def P60.takeTrigger (s : P60) : P60 :=
  if s.scanDue then
    if s.scanning then { s with scanPending := true, scanDue := false } else s.beginScan
  else s

/-- The end of a scan: both flags are cleared, and a pending scan begins at once (R82). -/
def P60.endScan (s : P60) : P60 :=
  if s.scanning then
    let s' := { s with scanning := false, scanPending := false }
    if s.scanPending then s'.trigger else s'
  else s

/-! ## Resumption -/

/-- The resumption check (R96). -/
def P60.resumptionCheck (s : P60) (k : SlotId) (o : Order) : Bool :=
  let i := indexIn (s.frontSec k) o.route
  match stepAt? (s.stepsOf o) i with
  | none => false
  | some st => (i == o.routeIndex || i == o.routeIndex + 1) && s.owns k st.sec && s.legHolds st

/-- An order resumed in SETTING: its check, the timer loaded for the front's section, and the first pass
(R74, R96, R127). -/
def P60.resumeSetting (s : P60) (k : SlotId) (o : Order) : P60 :=
  let s := s.setStage k .setting none
  if s.resumptionCheck k o then
    let s := s.updProgress k (fun p => { p with reach := 0, handed := none })
    (s.loadTimer k o (indexIn (s.frontSec k) o.route)).firstPass k
  else s.finishLive k (.failed .routeStart)

/-- A resumption that R74 accepts: a pending release ahead is dropped (R134), and the order goes to the
route setter or the docking sequencer by its stage. -/
def P60.resume (s : P60) (o : Order) (g : Stage) : P60 :=
  let k := o.slot
  let s := (s.updMotion k (fun m => { m with releaseAhead := false })).trigger
  if g.isDocking then (s.setStage k g none).resumeDocking k o g else s.resumeSetting k o

/-- RESUME_ORDER's tests for a SUSPENDED order (R74). A silence expiry's cause has cleared once the timer
is not EXPIRED, LINK_LOST's once the slot is bound and not LOST: both are tested before. -/
def P60.mayResume (s : P60) (o : Order) : Bool :=
  !s.estop && s.silence.state != .expired && !(s.slot o.slot).status.fixed && !s.faulty o.slot

end Sys2Proof.Machine
end

