-- ==== Sys2Proof/Machine/Links.lean ====
section
/-! DEFINITION. The transporter link's exchanges: what is sent when no attempt is in flight, replies, BUSY,
missing replies and polls (section 9.2); and the end of every command, when the hand-over checks, the
scan, the link and the attention set take up what it left. -/

namespace Sys2Proof.Machine

/-- The wait for a reply on the transporter link (R162). -/
def replyWait : Nat := 200

/-- A slot's places in the order they are sent (R161). -/
def slotPlaces : List PlaceName := [.bind, .motion, .docking, .poll]

/-- A stranger's places in the order they are sent (R161). -/
def strangerPlaces : List PlaceName := [.standDown, .poll]

/-- The message a place holds, if it is due (R161). -/
def Peer.due? (p : Peer) (place : PlaceName) : Option (PlaceName × Placed) :=
  match p.get place with
  | some x => if x.deferred.isNone then some (place, x) else none
  | none => none

/-- The first place that holds a message which is due (R161). -/
def Peer.next? (p : Peer) (places : List PlaceName) : Option (PlaceName × Placed) :=
  places.findSome? p.due?

/-- An attempt with a placed message is in flight; a POLL's first sending is remembered (R161, R163). -/
def Peer.launch (p : Peer) (now : Word) (place : PlaceName) (x : Placed) : Peer :=
  { p.set (some { x with sent := true }) place with
    attempt := some ⟨x.msg, place, x.tag, replyWait⟩
    lastPoll := if place = .poll ∧ ¬ x.sent then some now else p.lastPoll }

/-- Sends what a peer has due when no attempt is in flight: the frame, its message and the peer after it
(R161). -/
def Peer.pump (p : Peer) (i : Identity) (now : Word) (places : List PlaceName) :
    Option (Frame × PeerMsg × Peer) :=
  match p.attempt with
  | some _ => none
  | none => (p.next? places).map (fun (place, x) => (peerFrame i x.tag x.msg, x.msg, p.launch now place x))

/-- A message is the stage command whose report the docking record awaits (R143). -/
def Docking.commandIs (d : Docking) (m : PeerMsg) : Bool :=
  (m == .lift && d.awaiting == .lifted) || (m == .lower && d.awaiting == .lowered)

/-- A message has been transmitted to the slot: the present stage's LIFT or LOWER has had its first
transmission (R143). -/
def Docking.noteSent (d : Docking) (m : PeerMsg) : Docking :=
  { d with transmitted := d.transmitted || d.commandIs m }

/-- The link's turn for a bound slot (R161, R143). -/
def P60.pumpSlot (s : P60) (k : SlotId) : P60 :=
  match (s.slot k).ident, (s.slot k).peer with
  | some i, some p =>
    match p.pump i s.clock slotPlaces with
    | none => s
    | some (f, m, p') =>
      (s.send f).updSlot k (fun x => { x with peer := some p', docking := x.docking.noteSent m })
  | _, _ => s

/-- The link's turn for a listed stranger. -/
def P60.pumpStranger (s : P60) (i : Identity) : P60 :=
  match s.stranger? i with
  | none => s
  | some x =>
    match x.peer.pump i s.clock strangerPlaces with
    | none => s
    | some (f, _, p') => (s.send f).updStranger i (fun x => { x with peer := p' })

/-- The link's turn for every peer: slots by number, then strangers as listed (R161, log 10). -/
def P60.pumpAll (s : P60) : P60 :=
  (s.strangers.map (·.ident)).foldl P60.pumpStranger (allSlots.foldl P60.pumpSlot s)

/-! ## Replies -/

/-- A message carries the tag of the peer's attempt in flight: it is a reply (R162). -/
def Peer.answers (p : Peer) (tag : Byte) : Bool := p.attempt.any (fun a => a.tag == tag)

/-- A message still in its attempt's place: no newer one has taken the place (R162). -/
def Peer.stillPlaced (p : Peer) (a : Attempt) : Bool := (p.get a.place).any (fun x => x.tag == a.tag)

/-- The first POLL becomes due when the bind or stand-down message is acknowledged, by any reply but BUSY (R163,
log 59). -/
def Peer.firstPoll (p : Peer) (a : Attempt) : Peer :=
  if (a.place = .bind ∨ a.place = .standDown) ∧ p.lastPoll = none ∧ p.poll = none then p.put .poll .poll
  else p

/-- A reply other than BUSY: the failure count is 0, the attempt ends, the message leaves its place
(R162). -/
def Peer.replied (p : Peer) (now : Word) : Peer :=
  match p.attempt with
  | none => p
  | some a =>
    let q := if p.stillPlaced a then p.set none a.place else p
    { q with failures := 0, attempt := none, lastReply := some now }.firstPoll a

/-- The deferral of a message answered BUSY (R162). -/
def busyDeferral : Nat := 200

/-- A BUSY reply: the message stays in its place, not due for 200 ms (R162). -/
def Peer.busied (p : Peer) (now : Word) : Peer :=
  match p.attempt with
  | none => p
  | some a =>
    let q :=
      if p.stillPlaced a then
        p.set ((p.get a.place).map (fun x => { x with deferred := some busyDeferral })) a.place
      else p
    { q with failures := 0, attempt := none, lastReply := some now }

/-- A deferral has ended: the message is due again (R162). -/
def Peer.deferralEnds (p : Peer) (place : PlaceName) : Peer :=
  p.set ((p.get place).map (fun x => { x with deferred := none })) place

/-- The message now in the attempt's place is sent again at once (R162). -/
def Peer.resend (p : Peer) (i : Identity) (now : Word) (place : PlaceName) : Option (Frame × PeerMsg × Peer) :=
  (p.get place).map (fun x => (peerFrame i x.tag x.msg, x.msg, p.launch now place { x with deferred := none }))

/-- The poll interval of a slot, 0 when EMPTY or LOST (R163, R176). -/
def P60.pollInterval (s : P60) (k : SlotId) : Nat :=
  match (s.slot k).status with
  | .empty | .lost => 0
  | .stopping => 500
  | _ => if (s.slot k).authority.state = .none then 5000 else 500

/-- The interval at which a stranger is polled (R163). -/
def strangerInterval : Nat := 5000

/-- A POLL becomes due for a peer (R163). -/
def Peer.pollDue (p : Peer) : Peer := if p.poll = none then p.put .poll .poll else p

/-! ## The end of a command -/

/-- The outcome of a command (Host/Core.lean). -/
abbrev Outcome := Host.Outcome State Fault Refusal

/-- A command's effect on everything but the queue of commands that wait. -/
def run (f : P60 → P60) (s : State) : Outcome := .next { s with p60 := f s.p60 }

/-- Makes the hand-over checks owed, each of which may owe others (R23, R24, log 9). -/
def P60.drain : Nat → P60 → P60
  | 0, s => s
  | fuel + 1, s =>
    match s.tasks with
    | [] => s
    | n :: rest => P60.drain fuel ({ s with tasks := rest }.handOver n)

/-- More hand-over checks than one command can owe (log 9). -/
def drainFuel : Nat := 4096

/-- Makes all the hand-over checks owed. -/
def P60.handOvers (s : P60) : P60 := P60.drain drainFuel s

/-- What every command ends with (log 8, 9, 10). -/
def P60.settle (s : P60) : P60 := s.handOvers.takeTrigger.handOvers.pumpAll.syncAttention

/-- A command's effect: its rule's, then what every command ends with; `out` holds its frames alone
(log 24). -/
def command (f : P60 → P60) (s : P60) : P60 :=
  (f { s with out := [], tasks := [], scanDue := false }).settle

end Sys2Proof.Machine
end

