-- ==== Sys2Proof/Machine/Clock.lean ====
section
/-! DEFINITION. The passing of time: the clock (R16) and every timer that runs, in steps of 10 ms
(00_scope.md, Units; log 2, log 28). A timer that reaches 0 stays there until its expiry is taken. -/

namespace Sys2Proof.Machine

/-- One resolution step (R16). -/
def tickLength : Nat := 10

def Occupancy.advance (n : Nat) : Occupancy → Occupancy
  | .reserved h c => .reserved { h with proving := h.proving.map (· - n) } (c.map (· - n))
  | .occupied h => .occupied { h with proving := h.proving.map (· - n) }
  | .releasing t => .releasing (t - n)
  | o => o

def TurnoutState.advance (n : Nat) : TurnoutState → TurnoutState
  | .moving x sl t => .moving x sl (t - n)
  | st => st

/-- The count of a RUNNING timer rises to its period (R127). -/
def PassageTimer.advance (n : Nat) (t : PassageTimer) : PassageTimer :=
  if t.state = .running then { t with count := min t.period (t.count + n) } else t

def StageTimer.advance (n : Nat) : StageTimer → StageTimer
  | .running left => .running (left - n)
  | t => t

def Placed.advance (n : Nat) (p : Placed) : Placed := { p with deferred := p.deferred.map (· - n) }

def Peer.advance (n : Nat) (p : Peer) : Peer :=
  { p with
    attempt := p.attempt.map (fun a => { a with wait := a.wait - n })
    bind := p.bind.map (·.advance n)
    motion := p.motion.map (·.advance n)
    docking := p.docking.map (·.advance n)
    standDown := p.standDown.map (·.advance n)
    poll := p.poll.map (·.advance n) }

def Slot.advance (n : Nat) (x : Slot) : Slot :=
  { x with
    peer := x.peer.map (·.advance n)
    timer := x.timer.advance n
    docking := { x.docking with timer := x.docking.timer.advance n } }

def FeederState.advance (n : Nat) : FeederState → FeederState
  | .restoring left => .restoring (left - n)
  | .starting left => .starting (left - n)
  | st => st

/-- The remaining time falls while ARMED (R188). -/
def Silence.advance (n : Nat) (t : Silence) : Silence :=
  if t.state = .armed then { t with remaining := t.remaining - n } else t

/-- n milliseconds pass. -/
def P60.advance (n : Nat) (s : P60) : P60 :=
  { s with
    clock := s.clock + BitVec.ofNat 32 n
    sections := s.sections.map (fun r => { r with occ := r.occ.advance n })
    turnouts := s.turnouts.map (fun r => { r with state := r.state.advance n })
    slots := s.slots.map (·.advance n)
    strangers := s.strangers.map (fun x => { x with peer := x.peer.advance n })
    allStop := s.allStop.map (fun a => { a with timer := a.timer - n })
    feeders := s.feeders.map (fun x => { x with state := x.state.advance n })
    silence := s.silence.advance n
    exchange := s.exchange.map (fun e => { e with wait := e.wait - n }) }

/-- A command that changes nothing: no frame goes out (log 3). -/
def P60.quiet (s : P60) : P60 := { s with out := [] }

/-- A timer's end: the rest of its time passes, and it is taken; nothing where it does not run (log 2,
log 3). -/
def expiry (left : Option Nat) (fire : P60 → P60) (s : P60) : P60 :=
  match left with
  | none => s.quiet
  | some n => command fire (s.advance n)

end Sys2Proof.Machine
end

