-- ==== Sys2Proof/Machine/Requests.lean ====
section
/-! DEFINITION. Requests of the operations link: their kinds and payloads (section 11.6, R205), the
reading of a payload (R194), arrival, service and reply (R193, R194). -/

namespace Sys2Proof.Machine

/-! ## Payloads -/

def positionBytes : Position → List Byte
  | .head => b1 1
  | .tail => b1 2
  | .after id => b1 3 ++ b2 id.toNat
  | .other form => [form]

def selectorBytes : PlanSelector → List Byte
  | .summary => b1 1
  | .sec n => [2, n]
  | .turnout n => [3, n]
  | .pad n => [4, n]
  | .other code => [code]

def targetBytes : PlaceTarget → List Byte
  | .pad n => [1, n]
  | .transporter n => [2, n]
  | .unplaced => b1 3
  | .other form => [form]

def orderBytes (d : OrderDesc) : List Byte :=
  b2 d.id.toNat ++ [d.kind, d.slot, d.telescope, d.pad] ++ (b1 d.route.length ++ d.route)

def acceptBytes (e : AcceptEntry) : List Byte :=
  bFlags [e.maker.isSome, e.model.isSome, e.revision.isSome] ++
    (e.maker.toList ++ e.model.toList ++ e.revision.toList)

/-- The request a command stands for: tag, kind and payload (section 11.6, R205). -/
def requestOf : Instr → Option Request
  | .malformedRequest t k p => some ⟨t, k, p⟩
  | .identify t => some ⟨t, 0x01, []⟩
  | .queryAttention t => some ⟨t, 0x02, []⟩
  | .restart t => some ⟨t, 0x03, []⟩
  | .keepalive t => some ⟨t, 0x04, []⟩
  | .armSilence t p => some ⟨t, 0x05, b4 p.toNat⟩
  | .queryField t a => some ⟨t, 0x06, [a]⟩
  | .planBegin t c crc id => some ⟨t, 0x10, b2 c.toNat ++ b4 crc.toNat ++ b4 id.toNat⟩
  | .planRecord t bytes => some ⟨t, 0x11, bytes⟩
  | .planCommit t => some ⟨t, 0x12, []⟩
  | .queryPlan t sel => some ⟨t, 0x13, selectorBytes sel⟩
  | .possessSection t n => some ⟨t, 0x18, [n]⟩
  | .releaseSection t n => some ⟨t, 0x19, [n]⟩
  | .inhibitSections t l => some ⟨t, 0x1A, b1 l.length ++ l⟩
  | .permitSections t l => some ⟨t, 0x1B, b1 l.length ++ l⟩
  | .resetSection t n => some ⟨t, 0x1C, [n]⟩
  | .querySection t n => some ⟨t, 0x1D, [n]⟩
  | .throwTurnout t n x => some ⟨t, 0x20, [n, x]⟩
  | .resetTurnout t n => some ⟨t, 0x21, [n]⟩
  | .queryTurnout t n => some ⟨t, 0x22, [n]⟩
  | .insertOrders t p l => some ⟨t, 0x28, positionBytes p ++ bList (l.map orderBytes)⟩
  | .moveOrder t id p => some ⟨t, 0x29, b2 id.toNat ++ positionBytes p⟩
  | .removeOrder t id => some ⟨t, 0x2A, b2 id.toNat⟩
  | .collectFinished t => some ⟨t, 0x2B, []⟩
  | .cancelOrder t id => some ⟨t, 0x2C, b2 id.toNat⟩
  | .stopOrder t id => some ⟨t, 0x2D, b2 id.toNat⟩
  | .resumeOrder t id => some ⟨t, 0x2E, b2 id.toNat⟩
  | .queryOrder t id => some ⟨t, 0x2F, b2 id.toNat⟩
  | .listOrders t n => some ⟨t, 0x30, [n]⟩
  | .queryWaits t => some ⟨t, 0x34, []⟩
  | .queryDeadlock t => some ⟨t, 0x35, []⟩
  | .queryAuthority t n => some ⟨t, 0x36, [n]⟩
  | .queryMotion t n => some ⟨t, 0x37, [n]⟩
  | .lockPad t n => some ⟨t, 0x38, [n]⟩
  | .placeTelescope t n x => some ⟨t, 0x39, [n] ++ targetBytes x⟩
  | .queryPad t n => some ⟨t, 0x3A, [n]⟩
  | .queryTelescope t n => some ⟨t, 0x3B, [n]⟩
  | .setAcceptance t l => some ⟨t, 0x40, bList (l.map acceptBytes)⟩
  | .queryAcceptance t => some ⟨t, 0x41, []⟩
  | .queryRoster t => some ⟨t, 0x42, []⟩
  | .querySlot t n => some ⟨t, 0x43, [n]⟩
  | .queryStrangers t => some ⟨t, 0x44, []⟩
  | .releaseSlot t n => some ⟨t, 0x45, [n]⟩
  | .clearSlotFault t n => some ⟨t, 0x46, [n]⟩
  | .setHoldPolicy t a b => some ⟨t, 0x48, [a, b]⟩
  | .resetFeeder t n => some ⟨t, 0x49, [n]⟩
  | .resetStop t => some ⟨t, 0x4A, []⟩
  | .queryHolds t => some ⟨t, 0x4B, []⟩
  | _ => none

/-! ## Reading a payload -/

/-- A position and the bytes after it; an unknown form takes no id (R64, R205, log 17). -/
def readPosition : List Byte → Option (Position × List Byte)
  | [] => none
  | f :: rest =>
    if f = 1 then some (.head, rest)
    else if f = 2 then some (.tail, rest)
    else if f = 3 then
      match rest with
      | a :: b :: rest => some (.after (half a b), rest)
      | _ => none
    else some (.other f, rest)

/-- The first n bytes and the rest, if there are so many. -/
def takeBytes (n : Nat) (l : List Byte) : Option (List Byte × List Byte) :=
  if n ≤ l.length then some (l.take n, l.drop n) else none

def readOrder : List Byte → Option (OrderDesc × List Byte)
  | i :: j :: kind :: slot :: tel :: pad :: n :: rest =>
    (takeBytes n.toNat rest).map (fun (route, rest) => (⟨half i j, kind, slot, tel, pad, route⟩, rest))
  | _ => none

/-- The value of a selected field, and the bytes after it. -/
def readSelected (selected : Bool) : List Byte → Option (Option Byte × List Byte)
  | [] => if selected then none else some (none, [])
  | v :: rest => if selected then some (some v, rest) else some (none, v :: rest)

/-- An acceptance entry; bits above bit 2 of its flag byte are dropped (R205, log 17). -/
def readAccept : List Byte → Option (AcceptEntry × List Byte)
  | [] => none
  | f :: rest =>
    (readSelected (f.getLsbD 0) rest).bind fun (maker, rest) =>
      (readSelected (f.getLsbD 1) rest).bind fun (model, rest) =>
        (readSelected (f.getLsbD 2) rest).map fun (revision, rest) => (⟨maker, model, revision⟩, rest)

/-- n entries, and the bytes after them. -/
def readMany {α : Type} (one : List Byte → Option (α × List Byte)) :
    Nat → List Byte → Option (List α × List Byte)
  | 0, l => some ([], l)
  | n + 1, l =>
    (one l).bind fun (x, rest) => (readMany one n rest).map fun (xs, rest) => (x :: xs, rest)

/-- A list of varying length that ends the payload. -/
def readList {α : Type} (one : List Byte → Option (α × List Byte)) : List Byte → Option (List α)
  | [] => none
  | n :: rest =>
    match readMany one n.toNat rest with
    | some (xs, []) => some xs
    | _ => none

def readByte : List Byte → Option (Byte × List Byte)
  | [] => none
  | b :: rest => some (b, rest)

def none? {α : Type} (x : α) : List Byte → Option α
  | [] => some x
  | _ => none

def one? {α : Type} (f : Byte → α) : List Byte → Option α
  | [n] => some (f n)
  | _ => none

/-- QUERY_PLAN's selector; one that is none of the four is read as itself whatever follows it (R14, log 17). -/
def readSelector : List Byte → Option PlanSelector
  | [] => none
  | c :: rest =>
    if c = 1 then none? .summary rest
    else if c = 2 then one? .sec rest
    else if c = 3 then one? .turnout rest
    else if c = 4 then one? .pad rest
    else some (.other c)

/-- PLACE_TELESCOPE's location; a form that is none of the three is read as itself whatever follows it (R155,
log 17). -/
def readTarget : List Byte → Option PlaceTarget
  | [] => none
  | c :: rest =>
    if c = 1 then one? .pad rest
    else if c = 2 then one? .transporter rest
    else if c = 3 then none? .unplaced rest
    else some (.other c)

def half? {α : Type} (f : Half → α) : List Byte → Option α
  | [a, b] => some (f (half a b))
  | _ => none

/-- The request that a kind and payload of the right length spell (section 11.6, R205). Behind a selector or a
form that is none of those listed R205 gives no length, and none is wrong (log 17). -/
def readKind (t : Byte) (p : List Byte) : Nat → Option Instr
  | 0x01 => none? (.identify t) p
  | 0x02 => none? (.queryAttention t) p
  | 0x03 => none? (.restart t) p
  | 0x04 => none? (.keepalive t) p
  | 0x05 => match p with | [a, b, c, d] => some (.armSilence t (word a b c d)) | _ => none
  | 0x06 => one? (.queryField t) p
  | 0x10 =>
    match p with
    | [a, b, c, d, e, f, g, h, i, j] => some (.planBegin t (half a b) (word c d e f) (word g h i j))
    | _ => none
  | 0x11 => some (.planRecord t p)
  | 0x12 => none? (.planCommit t) p
  | 0x13 => (readSelector p).map (.queryPlan t)
  | 0x18 => one? (.possessSection t) p
  | 0x19 => one? (.releaseSection t) p
  | 0x1A => (readList readByte p).map (.inhibitSections t)
  | 0x1B => (readList readByte p).map (.permitSections t)
  | 0x1C => one? (.resetSection t) p
  | 0x1D => one? (.querySection t) p
  | 0x20 => match p with | [n, x] => some (.throwTurnout t n x) | _ => none
  | 0x21 => one? (.resetTurnout t) p
  | 0x22 => one? (.queryTurnout t) p
  | 0x28 =>
    match readPosition p with
    | some (.other f, rest) => some (.insertOrders t (.other f) ((readList readOrder rest).getD []))
    | some (pos, rest) => (readList readOrder rest).map (.insertOrders t pos)
    | none => none
  | 0x29 =>
    match p with
    | a :: b :: rest =>
      match readPosition rest with
      | some (.other f, _) => some (.moveOrder t (half a b) (.other f))
      | some (pos, []) => some (.moveOrder t (half a b) pos)
      | _ => none
    | _ => none
  | 0x2A => half? (.removeOrder t) p
  | 0x2B => none? (.collectFinished t) p
  | 0x2C => half? (.cancelOrder t) p
  | 0x2D => half? (.stopOrder t) p
  | 0x2E => half? (.resumeOrder t) p
  | 0x2F => half? (.queryOrder t) p
  | 0x30 => one? (.listOrders t) p
  | 0x34 => none? (.queryWaits t) p
  | 0x35 => none? (.queryDeadlock t) p
  | 0x36 => one? (.queryAuthority t) p
  | 0x37 => one? (.queryMotion t) p
  | 0x38 => one? (.lockPad t) p
  | 0x39 =>
    match p with
    | n :: rest => (readTarget rest).map (.placeTelescope t n)
    | [] => none
  | 0x3A => one? (.queryPad t) p
  | 0x3B => one? (.queryTelescope t) p
  | 0x40 => (readList readAccept p).map (.setAcceptance t)
  | 0x41 => none? (.queryAcceptance t) p
  | 0x42 => none? (.queryRoster t) p
  | 0x43 => one? (.querySlot t) p
  | 0x44 => none? (.queryStrangers t) p
  | 0x45 => one? (.releaseSlot t) p
  | 0x46 => one? (.clearSlotFault t) p
  | 0x48 => match p with | [a, b] => some (.setHoldPolicy t a b) | _ => none
  | 0x49 => one? (.resetFeeder t) p
  | 0x4A => none? (.resetStop t) p
  | 0x4B => none? (.queryHolds t) p
  | _ => none

/-- The command a queued request stands for; a request that R194 step 1 refuses is a malformed one, tag 0
among them (log 32). -/
def readRequest (r : Request) : Instr :=
  if r.tag = 0 then .malformedRequest r.tag r.kind r.payload
  else (readKind r.tag r.payload r.kind.toNat).getD (.malformedRequest r.tag r.kind r.payload)

/-- A plan record's payload has the length of its type's layout (R9, section 1.8). -/
def recordLayout : List Byte → Bool
  | [] => false
  | t :: rest =>
    (t == 1 && rest.length == 22) || (t == 2 && rest.length == 3) || (t == 3 && rest.length == 7) ||
      (t == 4 && rest.length == 2)

/-- R194's step 1 refuses the request MALFORMED. -/
def Request.malformed (r : Request) : Bool :=
  match readRequest r with
  | .malformedRequest _ _ _ => true
  | .planRecord _ bytes => !recordLayout bytes
  | _ => false

/-! ## Arrival, service, reply -/

/-- The reply's kind: the request's with its high bit set (R194). -/
def replyKind (kind : Byte) : Byte := kind ||| 0x80

/-- A reply's record: the result code, then the fields (R194). -/
def replyTo (r : Request) (a : Answer) : TxRecord :=
  .reply ⟨r.tag, replyKind r.kind, BitVec.ofNat 8 a.result.code :: a.fields⟩

/-- The reply is formed and the request leaves the queue (R193, R194). -/
def P60.answer (s : P60) (r : Request) (a : Answer) : P60 :=
  { s with requests := s.requests.tail, opsTx := s.opsTx ++ [replyTo r a] }

/-- Writes that a request waits for (R193). -/
def NvmWrite.ofRequest : NvmWrite → Bool
  | .lifted _ _ _ _ | .lowered _ _ _ _ _ => false
  | _ => true

/-- Writes of the telescope location table (R141). -/
def NvmWrite.isTransfer : NvmWrite → Bool
  | .lifted _ _ _ _ | .lowered _ _ _ _ _ | .place _ _ => true
  | _ => false

/-- The request at the head is being served: its write has not ended (R193). -/
def P60.serving (s : P60) : Bool := s.writes.any NvmWrite.ofRequest

/-- A transfer is being written; a query served meanwhile is answered after it (R141). -/
def P60.transferring (s : P60) : Bool := s.writes.any NvmWrite.isTransfer

/-- A request as it stands in the queue: the bits that its reading drops are dropped (log 17). -/
def Request.canonical (r : Request) : Request := (requestOf (readRequest r)).getD r

/-- A request arrives: it joins the queue's tail, or draws BUSY from a full queue, and has no effect while a
RESTART is in progress (R193, R199). -/
def P60.arrival (s : P60) (r : Request) : P60 :=
  if s.restart.isSome then s.quiet
  else if s.requests.length < 8 then { s.quiet with requests := s.requests ++ [r.canonical] }
  else { s.quiet with opsTx := s.opsTx ++ [replyTo r (.refuse .busy)] }

/-- The most bytes a payload holds (R192). -/
def maxPayload : Nat := 248

/-- A request command: `serve` if the request is or becomes the queue's head and may be served now,
arrival otherwise; a head that waits is left waiting, and a payload no frame can carry cannot arrive
(R192, R193, log 3, log 4). -/
def P60.requestTurn (s : P60) (r : Request) (ready : Bool) (serve : P60 → P60) : P60 :=
  if maxPayload < r.payload.length then s.quiet
  else if s.restart.isSome then s.quiet
  else
    match s.requests with
    | [] => if ready then serve { s.quiet with requests := [r] } else s.arrival r
    | h :: _ => if h = r then (if ready then serve s.quiet else s.quiet) else s.arrival r

/-- A query: it changes nothing but the queue and the records formed, and waits while a transfer is
written (R141, R194); IDENTIFY and LIST_ORDERS are served as queries (log 52). -/
def query (r : Request) (f : P60 → Answer) (s : P60) : P60 :=
  s.requestTurn r (!s.serving && !s.transferring) (fun s =>
    s.answer r (if r.malformed then .refuse .malformed else f s))

/-- What a request's rule does: the state after it and the answer, none while a write must end first. -/
abbrev Service := P60 → P60 × Option Answer

/-- The service of a request at the head of the queue, whatever it is (R193, R194). -/
def P60.serveWith (s : P60) (r : Request) (f : Service) : P60 :=
  if r.malformed then s.answer r (.refuse .malformed)
  else
    match f { s with tasks := [], scanDue := false } with
    | (s, some a) => s.settle.answer r a
    | (s, none) => s.settle

/-- A request that may change the state (R193, R194). -/
def request (r : Request) (f : Service) (s : P60) : P60 :=
  s.requestTurn r (!s.serving) (fun s => s.serveWith r f)

/-- A request that may change the state and waits while a transfer is written: one that a rule calls a query
(R173, R197), and one judged by the telescope location table (R141, log 52). -/
def requestAfterTransfer (r : Request) (f : Service) (s : P60) : P60 :=
  s.requestTurn r (!s.serving && !s.transferring) (fun s => s.serveWith r f)

/-- A refusal leaves the state as it was (R194); it carries fields only where its rule names them (log 16). -/
def refuse (s : P60) (res : Result) (fields : List Byte) : P60 × Option Answer := (s, some ⟨res, fields⟩)

/-- Acceptance with fields. -/
def accept (s : P60) (fields : List Byte) : P60 × Option Answer := (s, some (.ok fields))

end Sys2Proof.Machine
end

