-- ==== Sys2Proof/Machine/PlanStore.lean ====
section
/-! DEFINITION. The plan store: plan records (section 1.8), the seven checks of a commit (R11), the tables
built from a plan (R12), and the requests PLAN_BEGIN, PLAN_RECORD, PLAN_COMMIT and QUERY_PLAN. -/

namespace Sys2Proof.Machine

/-! ## Records as received -/

/-- A join as a record gives it: a section number and an end code (section 1.8). -/
structure RawJoin where
  sec : Nat
  code : Nat
  deriving DecidableEq, Repr

/-- A section record as received (section 1.8). -/
structure RawSection where
  num : Nat
  kind : Nat
  length : Nat
  lineSpeed : Nat
  feeder : Nat
  detector : Nat
  slack : Nat
  a : RawJoin
  b : RawJoin
  br : RawJoin
  turnout : Nat
  pad : Nat
  deriving DecidableEq, Repr

/-- A plan record as received (section 1.8). -/
inductive PlanRec where
  | sec (r : RawSection)
  | turnout (t : PlanTurnout)
  | pad (p : PlanPad)
  | margin (m : Nat)
  | unknown
  deriving DecidableEq, Repr

/-- Reads a record's layout (section 1.8). -/
def readRecord : List Byte → PlanRec
  | [1, n, k, l3, l2, l1, l0, v1, v0, f, d, s3, s2, s1, s0, aj, ae, bj, be, rj, re, t, p] =>
    .sec
      { num := n.toNat
        kind := k.toNat
        length := n4 l3 l2 l1 l0
        lineSpeed := n2 v1 v0
        feeder := f.toNat
        detector := d.toNat
        slack := n4 s3 s2 s1 s0
        a := ⟨aj.toNat, ae.toNat⟩
        b := ⟨bj.toNat, be.toNat⟩
        br := ⟨rj.toNat, re.toNat⟩
        turnout := t.toNat
        pad := p.toNat }
  | [2, n, x, a] => .turnout ⟨n.toNat, x.toNat, a.toNat⟩
  | [3, n, x, o3, o2, o1, o0, a] => .pad ⟨n.toNat, x.toNat, n4 o3 o2 o1 o0, a.toNat⟩
  | [4, m1, m0] => .margin (n2 m1 m0)
  | _ => .unknown

def kindOf (n : Nat) : Option SectionKind :=
  if n = 1 then some .plain else if n = 2 then some .turnout else if n = 3 then some .spur else none

def endOf (n : Nat) : Option SecEnd :=
  if n = 1 then some .a else if n = 2 then some .b else if n = 3 then some .bNormal
  else if n = 4 then some .bReverse else none

/-- A present join, or absent (section 1.8). -/
def RawJoin.join? (j : RawJoin) : Option Join := (endOf j.code).map (fun e => ⟨j.sec, e⟩)

/-! ## Step 3: RANGE -/

/-- A neighbour section of 0 goes with no end and a non-zero one with an end (R1, R11). -/
def RawJoin.inRange (j : RawJoin) : Bool :=
  (j.sec == 0 && j.code == 0) || (Machine.inRange 1 240 j.sec && Machine.inRange 1 4 j.code)

def RawJoin.present (j : RawJoin) : Bool := j.sec != 0

/-- Joins, turnout number and pad number are present or absent as the kind requires (R1, R11). -/
def RawSection.kindFits (r : RawSection) : Bool :=
  match kindOf r.kind with
  | some .plain => !r.br.present && r.turnout == 0 && r.pad == 0
  | some .turnout =>
    r.a.present && r.b.present && r.br.present && inRange 1 48 r.turnout && r.pad == 0
  | some .spur =>
    r.a.present && !r.b.present && !r.br.present && r.turnout == 0 && inRange 1 160 r.pad
  | none => false

/-- Every field of a record lies in its range (R1, R3, R11 step 3). -/
def PlanRec.inRange : PlanRec → Bool
  | .sec r =>
    Machine.inRange 1 240 r.num && Machine.inRange 40000 600000 r.length &&
      Machine.inRange 100 1500 r.lineSpeed && Machine.inRange 1 4 r.feeder &&
      Machine.inRange 1 247 r.detector && decide (r.slack ≤ 120000) &&
      r.a.inRange && r.b.inRange && r.br.inRange && r.kindFits
  | .turnout t => Machine.inRange 1 48 t.num && Machine.inRange 1 240 t.sec && Machine.inRange 1 247 t.address
  | .pad p =>
    Machine.inRange 1 160 p.num && Machine.inRange 1 240 p.spur &&
      Machine.inRange 10000 595000 p.stopOffset && Machine.inRange 1 247 p.address
  | .margin m => Machine.inRange 500 5000 m
  | .unknown => false

/-! ## Typed records -/

/-- The section a record in range describes (R1). -/
def RawSection.section? (r : RawSection) : Option PlanSection :=
  match kindOf r.kind with
  | none => none
  | some kind =>
    some
      { num := r.num
        kind
        length := r.length
        lineSpeed := r.lineSpeed
        feeder := ⟨(r.feeder - 1) % 4, Nat.mod_lt _ (by decide)⟩
        detector := r.detector
        slack := r.slack
        aJoin := r.a.join?
        bJoin := r.b.join?
        brJoin := r.br.join?
        turnout := r.turnout
        pad := r.pad }

def PlanRec.section? : PlanRec → Option PlanSection
  | .sec r => r.section?
  | _ => none

def PlanRec.turnout? : PlanRec → Option PlanTurnout
  | .turnout t => some t
  | _ => none

def PlanRec.pad? : PlanRec → Option PlanPad
  | .pad p => some p
  | _ => none

def PlanRec.margin? : PlanRec → Option Nat
  | .margin m => some m
  | _ => none

/-- The plan that records describe (R12). -/
def planOf (id crc : Word) (records : List (List Byte)) : Plan :=
  let rs := records.map readRecord
  { records
    id
    crc
    sections := rs.filterMap PlanRec.section?
    turnouts := rs.filterMap PlanRec.turnout?
    pads := rs.filterMap PlanRec.pad?
    margin := (rs.findSome? PlanRec.margin?).getD 0 }

/-! ## Steps 4 to 7 -/

/-- The field address a record uses (R3). -/
def PlanRec.address? : PlanRec → Option Nat
  | .sec r => some r.detector
  | .turnout t => some t.address
  | .pad p => some p.address
  | _ => none

/-- The number a record defines, with its type (R11 step 4). -/
def PlanRec.defines? : PlanRec → Option (UnitKind × Nat)
  | .sec r => some (.detector, r.num)
  | .turnout t => some (.turnout, t.num)
  | .pad p => some (.pad, p.num)
  | _ => none

/-- The present joins of a section with the ends they stand at. -/
def PlanSection.joins (x : PlanSection) : List (SecEnd × Join) :=
  x.kind.ends.filterMap (fun e => (x.joinAt e).map (fun j => (e, j)))

/-- A join names a defined other section and an end that exists on its kind (R2, R11 step 4). -/
def Plan.joinRefers (p : Plan) (x : PlanSection) (j : Join) : Bool :=
  j.sec != x.num && (p.section? j.sec).any (fun y => y.kind.ends.contains j.fin)

/-- What a record refers to exists (R11 step 4). Of a number defined twice, the first definition is what a reference is
judged by: the model's choice, log 44. -/
def Plan.refers (p : Plan) : PlanRec → Bool
  | .sec r =>
    match r.section? with
    | none => false
    | some x =>
      x.joins.all (fun j => p.joinRefers x j.2) &&
        (x.kind != .turnout || (p.turnout? x.turnout).isSome) &&
        (x.kind != .spur || (p.pad? x.pad).isSome)
  | .turnout t => (p.section? t.sec).any (fun x => x.kind == .turnout)
  | .pad d => (p.section? d.spur).any (fun x => x.kind == .spur && decide (d.stopOffset + 5000 ≤ x.length))
  | _ => true

/-- Nothing before a record defines its number or uses its address; of two records that use one address the
later is the offender (R11 step 4, log 44). -/
def PlanRec.fresh (before : List PlanRec) (r : PlanRec) : Bool :=
  (r.defines?.isNone || !(before.map PlanRec.defines?).contains r.defines?) &&
    (r.address?.isNone || !(before.map PlanRec.address?).contains r.address?)

/-- Every join of a section is returned, and the two sections meet nowhere else (R11 step 5). -/
def Plan.symmetric (p : Plan) (x : PlanSection) : Bool :=
  x.joins.all (fun (e, j) =>
    (p.section? j.sec).any (fun y => y.joinAt j.fin == some ⟨x.num, e⟩) &&
      ((x.joins.filter (fun k => k.2.sec == j.sec)).length == 1))

/-- A record's correspondence (R11 step 6). -/
def Plan.corresponds (p : Plan) : PlanRec → Bool
  | .sec r =>
    match r.section? with
    | none => false
    | some x =>
      (x.kind != .turnout || (p.turnout? x.turnout).any (fun t => t.sec == x.num)) &&
        (x.kind != .spur || (p.pad? x.pad).any (fun d => d.spur == x.num))
  | .turnout t => (p.section? t.sec).any (fun x => x.turnout == t.num)
  | .pad d => (p.section? d.spur).any (fun x => x.pad == d.num)
  | _ => true

/-- The index, from 1, of the first record that fails a check of it and the records before it. -/
def firstFailing (ok : List PlanRec → PlanRec → Bool) : List PlanRec → List PlanRec → Nat → Option Nat
  | _, [], _ => none
  | before, r :: rest, i => if ok before r then firstFailing ok (before ++ [r]) rest (i + 1) else some i

/-- The lowest telescope at a pad the plan does not define (R11 step 7). -/
def P60.strandedTelescope? (s : P60) (p : Plan) : Option Nat :=
  allTelescopes.find? (fun t =>
    match s.location t with
    | .pad n => (p.pad? n).isNone
    | _ => false)

/-- The first failing step of a commit, with its index (R11). -/
def P60.checkPlan (s : P60) (h : LoadHeader) (buffer : List (List Byte)) : Option (CheckReason × Nat) :=
  let rs := buffer.map readRecord
  let p := planOf h.id h.crc buffer
  if buffer.length ≠ h.count ∨ (rs.filterMap PlanRec.margin?).length ≠ 1 ∨
      (rs.filter (fun r => match r with | .sec _ => true | _ => false)).isEmpty then some (.count, 0)
  else if crc32 buffer.flatten ≠ h.crc then some (.crc, 0)
  else
    ((firstFailing (fun _ r => r.inRange) [] rs 1).map (fun i => (.range, i))).or
      (((firstFailing (fun before r => r.fresh before && p.refers r) [] rs 1).map (fun i => (.reference, i))).or
        (((firstFailing (fun _ r => r.section?.all p.symmetric) [] rs 1).map (fun i => (.symmetry, i))).or
          (((firstFailing (fun _ r => p.corresponds r) [] rs 1).map (fun i => (.correspondence, i))).or
            ((s.strandedTelescope? p).map (fun t => (.custody, t))))))

/-! ## The tables of a plan -/

/-- Inserts a unit in ascending order of address. -/
def insertUnit (u : FieldUnit) : List FieldUnit → List FieldUnit
  | [] => [u]
  | v :: rest => if u.address ≤ v.address then u :: v :: rest else v :: insertUnit u rest

def FieldUnit.fresh (address : Nat) (kind : UnitKind) (num : Nat) : FieldUnit :=
  ⟨address, kind, num, 0, none, none, none, false⟩

/-- The field units of a plan, in ascending order of address (R200, R201). -/
def Plan.units (p : Plan) : List FieldUnit :=
  (p.sections.map (fun x => FieldUnit.fresh x.detector .detector x.num) ++
    p.turnouts.map (fun x => FieldUnit.fresh x.address .turnout x.num) ++
    p.pads.map (fun x => FieldUnit.fresh x.address .pad x.num)).foldr insertUnit []

/-- The plan is ACTIVE: its tables are built, every section UNPROVEN, every turnout UNDETECTED, every clamp
UNKNOWN, and the status sweep runs (R12, R16, R44, R139, R201). -/
def P60.activate (s : P60) (p : Plan) : P60 :=
  { s with
    plan := .active p
    sections := p.sections.map (fun x => ⟨x.num, .unproven, false, false, .none, []⟩)
    turnouts := p.turnouts.map (fun x => ⟨x.num, x.sec, .undetected, .none, 0⟩)
    pads := p.pads.map (fun x => ⟨x.num, .unknown, none⟩)
    throwQueue := []
    units := p.units
    sweep := .running }

/-- The inhibits retained are reloaded (R43). -/
def P60.reloadInhibits (s : P60) : P60 :=
  { s with sections := s.sections.map (fun r => { r with inhibit := s.nvm.inhibits.contains r.num }) }

/-- The end of a commit's write: the committing record is stored, the plan is ACTIVE, and a scan is
triggered (R12). -/
def P60.commitPlan (s : P60) (p : Plan) : P60 :=
  ({ s with nvm := { s.nvm with plan := some ⟨p.records, p.id, p.crc⟩ } }.activate p).trigger

/-- The fields of PLAN_COMMIT's OK reply (R12). -/
def Plan.commitFields (p : Plan) : List Byte :=
  b4 p.id.toNat ++ b1 p.sections.length ++ b1 p.turnouts.length ++ b1 p.pads.length

/-- The present plan is destroyed and everything that belonged to it ends (R8, R201, R184). -/
def P60.erasePlan (s : P60) : P60 :=
  let s := s.orders.foldl (fun s o =>
    if o.state = .queued then s.finishOrder o (.failed .planChanged) else s) s
  let s :=
    { s with
      nvm := { s.nvm with plan := none, inhibits := [] }
      sections := []
      turnouts := []
      throwQueue := []
      pads := []
      units := []
      exchange := none
      commands := []
      sweep := .none }
  allFeeders.foldl P60.emptyHeld s

/-! ## The requests -/

/-- A section has an owner, an order is ACTIVE or SUSPENDED, or a throw is queued or in progress (R7). -/
def P60.inUse (s : P60) : Bool :=
  s.sections.any (fun r => r.occ.owner?.isSome) || s.orders.any (fun o => o.state.live) ||
    !s.throwQueue.isEmpty || s.turnouts.any (fun r => r.state.slot?.isSome)

/-- PLAN_BEGIN, by the first case of R7's table that applies. R194 names R7 for its step 2, and is read so that the
list's hold takes R7's place for it, behind the ranges (R7, R8, R77, R194, log 37). -/
def planBegin (count : Half) (crc id : Word) : Service := fun s =>
  if ¬ inRange 2 449 count.toNat ∨ id = 0 then refuse s .outOfRange []
  else if s.scanning then refuse s .listHeld []
  else if s.inUse then refuse s .badState []
  else accept { s.erasePlan with plan := .loading ⟨count.toNat, crc, id⟩ [] } []

def execPlanBegin (tag : Byte) (count : Half) (crc id : Word) : State → Outcome :=
  run (request ⟨tag, 0x10, b2 count.toNat ++ b4 crc.toNat ++ b4 id.toNat⟩ (planBegin count crc id))

/-- PLAN_RECORD (R9); its MALFORMED refusal is given before (R194). -/
def planRecord (bytes : List Byte) : Service := fun s =>
  match s.plan with
  | .loading h buffer =>
    if h.count ≤ buffer.length then refuse s .outOfRange []
    else accept { s with plan := .loading h (buffer ++ [bytes]) } (b2 (buffer.length + 1))
  | _ => refuse s .badState []

def execPlanRecord (tag : Byte) (bytes : List Byte) : State → Outcome :=
  run (request ⟨tag, 0x11, bytes⟩ (planRecord bytes))

/-- PLAN_COMMIT: a failing check makes the plan INVALID; a plan that passes is written (R11, R12). -/
def planCommit : Service := fun s =>
  match s.plan with
  | .loading h buffer =>
    match s.checkPlan h buffer with
    | some (reason, index) =>
      refuse { s with plan := .invalid h buffer.length reason index } .planCheckFailed
        (b1 reason.code ++ b2 index)
    | none => ({ s with writes := s.writes ++ [.planCommit (planOf h.id h.crc buffer)] }, none)
  | _ => refuse s .badState []

def execPlanCommit (tag : Byte) : State → Outcome :=
  run (requestAfterTransfer ⟨tag, 0x12, []⟩ planCommit)

/-- The columns of QUERY_PLAN's SUMMARY; the state ABSENT is a named value, 01h (R14, log 15). -/
def PlanState.summary : PlanState → List Byte
  | .absent => b1 1 ++ b4 0 ++ b4 0 ++ b2 0 ++ b2 0 ++ b1 0 ++ b1 0 ++ b1 0 ++ b2 0 ++ b1 0 ++ b2 0
  | .loading h buffer =>
    b1 2 ++ b4 h.id.toNat ++ b4 h.crc.toNat ++ b2 h.count ++ b2 buffer.length ++
      b1 0 ++ b1 0 ++ b1 0 ++ b2 0 ++ b1 0 ++ b2 0
  | .active p =>
    b1 3 ++ b4 p.id.toNat ++ b4 p.crc.toNat ++ b2 p.records.length ++ b2 p.records.length ++
      b1 p.sections.length ++ b1 p.turnouts.length ++ b1 p.pads.length ++ b2 p.margin ++ b1 0 ++ b2 0
  | .invalid h received reason index =>
    b1 4 ++ b4 h.id.toNat ++ b4 h.crc.toNat ++ b2 h.count ++ b2 received ++
      b1 0 ++ b1 0 ++ b1 0 ++ b2 0 ++ b1 reason.code ++ b2 index

/-- The committed record of a type and number, without its type byte (R14, log 15). -/
def Plan.recordOf (p : Plan) (type n : Byte) : Option (List Byte) :=
  p.records.findSome? (fun r =>
    match r with
    | t :: m :: rest => if t = type ∧ m = n then some (m :: rest) else none
    | _ => none)

/-- A SECTION, TURNOUT or PAD selector (R14). -/
def P60.planItem (s : P60) (type : Byte) (top : Nat) (n : Byte) : Answer :=
  match s.plan? with
  | none => .refuse .planNotActive
  | some p =>
    if ¬ inRange 1 top n.toNat then .refuse .outOfRange
    else
      match p.recordOf type n with
      | none => .refuse .notInPlan
      | some fields => .ok fields

/-- QUERY_PLAN (R14). -/
def queryPlan (sel : PlanSelector) (s : P60) : Answer :=
  match sel with
  | .summary => .ok s.plan.summary
  | .sec n => s.planItem 1 240 n
  | .turnout n => s.planItem 2 48 n
  | .pad n => s.planItem 3 160 n
  | .other _ => .refuse .outOfRange

def execQueryPlan (tag : Byte) (sel : PlanSelector) : State → Outcome :=
  run (query ⟨tag, 0x13, selectorBytes sel⟩ (queryPlan sel))

end Sys2Proof.Machine
end

