-- ==== Sys2Proof/Machine/Sections.lean ====
section
/-! DEFINITION. Sections: what detectors and POSITION reports do to them (R28, R31 to R33), their timers
(R26, R27, R29, R32), and the requests of section 2.8. -/

namespace Sys2Proof.Machine

/-! ## Release behind the transporter -/

/-- The owner's rear is beyond section n, which it does not overlap. For a section of the route, the rear, by
the last report that lay on the route, is in a later one; for a section off the route, the rear is in any
section of the route (R28, log 19). -/
def P60.rearBeyond (s : P60) (k : SlotId) (n : Nat) : Bool :=
  match s.liveOrder? k with
  | none => false
  | some o =>
    let i := indexIn n o.route
    !s.overlaps k n &&
      decide (if i = 0 then indexIn (s.rearSec k) o.route ≠ 0 else i < (s.slot k).progress.rearIndex)

/-- The proving timer of an owned section (R29). -/
def P60.setProving (s : P60) (n : Nat) (t : Option Nat) : P60 :=
  s.updSection n (fun r => { r with occ := r.occ.mapHolding (fun h => { h with proving := t }) })

/-- R28's first condition and flag: section n may be released behind slot k. -/
def P60.releasable (s : P60) (k : SlotId) (n : Nat) : Bool :=
  ((s.section? n).bind (·.occ.holding?)).any (fun h => h.owner == .slot k && h.autoRelease) &&
    s.rearBeyond k n

/-- R28's release request, which ends the proving timer (R29). -/
def P60.autoRelease (s : P60) (k : SlotId) (n : Nat) : P60 :=
  (s.setProving n none).releaseRequest n (.slot k)

/-- The evaluation of section n at a POSITION report of its owner (R28, R29). -/
def P60.evaluateRelease (s : P60) (k : SlotId) (n : Nat) : P60 :=
  match s.section? n with
  | none => s
  | some r =>
    if s.releasable k n then
      if r.reading = .clear then s.autoRelease k n
      else if r.occ.holding?.any (fun h => h.proving.isNone && !h.releasePending) then
        s.setProving n (some provingTime)
      else s
    else s

/-- The entry-confirmation timer starts when a report puts the front in a RESERVED section (R32). -/
def P60.confirmEntry (s : P60) (k : SlotId) : P60 :=
  s.updSection (s.frontSec k) (fun r =>
    match r.occ with
    | .reserved h none => if h.owner = .slot k then { r with occ := .reserved h (some confirmTime) } else r
    | _ => r)

/-- What a POSITION report does in the reservation table, its overlap set (R16, R28, R32). -/
def P60.tablePosition (s : P60) (k : SlotId) : P60 :=
  let s := s.updSlot k (fun x => { x with overlap := some (x.front.sec.toNat, x.rear.sec.toNat) })
  let s := (s.confirmEntry k).noteRear k
  (s.ownedBy k).foldl (fun s n => s.evaluateRelease k n) s

/-! ## Detectors -/

/-- An OCCUPIED report (R31). -/
def P60.detectorOccupied (s : P60) (n : Nat) (occ : Occupancy) : P60 :=
  match occ with
  | .unproven | .free | .releasing _ => s.disturb n
  | .reserved h _ =>
    let s := s.setOcc n (.occupied h)
    match h.owner with
    | .slot k => s.sectionEntry k n
    | .possession => s
  | .occupied _ | .disturbed => s

/-- A CLEAR report, the reading set and the proving timer stopped already; an OCCUPIED section that R28 does
not release, its auto-release flag clear among them, returns to RESERVED (R31, log 43). -/
def P60.detectorClear (s : P60) (n : Nat) (occ : Occupancy) : P60 :=
  match occ with
  | .unproven => s.becomeFree n
  | .reserved h _ =>
    match h.owner with
    | .slot k => if s.releasable k n then s.autoRelease k n else s
    | .possession => s
  | .occupied h =>
    match h.owner with
    | .slot k =>
      if s.overlaps k n then s.setDiscrepancy n
      else if s.releasable k n then s.autoRelease k n
      else s.setOcc n (.reserved h none)
    | .possession => s.setOcc n (.reserved h none)
  | .free | .releasing _ | .disturbed => s

/-- A detector report for section n; a CLEAR one stops its proving timer (R29, R31). -/
def P60.detectorReport (s : P60) (n : Nat) (v : DetectorValue) : P60 :=
  match s.section? n with
  | none => s
  | some r =>
    match v with
    | .occupied => (s.updSection n (fun r => { r with reading := .occupied })).detectorOccupied n r.occ
    | .clear =>
      ((s.updSection n (fun r => { r with reading := .clear })).setProving n none).detectorClear n
        (r.occ.mapHolding (fun h => { h with proving := none }))

/-- A detector falls silent (R33). -/
def P60.detectorSilent (s : P60) (n : Nat) : P60 :=
  (s.updSection n (fun r =>
    { r with
      reading := .silent
      occ := if r.occ = .free then .disturbed else r.occ })).setDiscrepancy n

/-! ## Timers -/

/-- Milliseconds until a pending release takes effect (R26). -/
def P60.holdLeft? (s : P60) (n : Nat) : Option Nat :=
  ((s.section? n).bind (·.occ.holding?)).bind (fun h =>
    if h.releasePending then some (minimumHold - s.elapsed h.since) else none)

def execMinimumHoldEnd (sec : Byte) : State → Outcome :=
  run (fun s => expiry (s.holdLeft? sec.toNat) (·.releaseNow sec.toNat) s)

def P60.clearingLeft? (s : P60) (n : Nat) : Option Nat :=
  (s.section? n).bind (fun r => match r.occ with | .releasing t => some t | _ => none)

/-- The clearing timer runs out: the reading decides (R27). -/
def P60.clearingExpires (s : P60) (n : Nat) : P60 :=
  if (s.section? n).any (fun r => r.reading == .clear) then s.becomeFree n else s.disturb n

def execClearingTimerExpiry (sec : Byte) : State → Outcome :=
  run (fun s => expiry (s.clearingLeft? sec.toNat) (·.clearingExpires sec.toNat) s)

def P60.provingLeft? (s : P60) (n : Nat) : Option Nat :=
  ((s.section? n).bind (·.occ.holding?)).bind (·.proving)

/-- The proving timer runs out: with the reading still not CLEAR the section loses its owner and is
DISTURBED (R29). -/
def P60.provingExpires (s : P60) (n : Nat) : P60 :=
  if (s.section? n).any (fun r => r.reading == .clear) then s.setProving n none else s.disturbOwned n

def execProvingTimerExpiry (sec : Byte) : State → Outcome :=
  run (fun s => expiry (s.provingLeft? sec.toNat) (·.provingExpires sec.toNat) s)

def P60.confirmLeft? (s : P60) (n : Nat) : Option Nat :=
  (s.section? n).bind (fun r => match r.occ with | .reserved _ c => c | _ => none)

/-- The entry-confirmation timer runs out: OCCUPIED, with the discrepancy flag set and no section-entry
event (R32). -/
def P60.confirmExpires (s : P60) (n : Nat) : P60 :=
  (s.updSection n (fun r =>
    match r.occ with
    | .reserved h _ => { r with occ := .occupied h }
    | _ => r)).setDiscrepancy n

def execEntryConfirmationExpiry (sec : Byte) : State → Outcome :=
  run (fun s => expiry (s.confirmLeft? sec.toNat) (·.confirmExpires sec.toNat) s)

/-! ## Requests -/

/-- Decides a request about section n of the plan, after R37's checks. -/
def onSection (n : Nat) (f : SectionRec → P60 → P60 × Option Answer) : Service := fun s =>
  match s.refuseSection n with
  | some res => refuse s res []
  | none =>
    match s.section? n with
    | none => refuse s .notInPlan []
    | some r => f r s

/-- Section n is taken by the operations computer (R38). -/
def P60.possess (s : P60) (n : Nat) : P60 :=
  (s.setOcc n (.reserved ⟨.possession, none, none, s.clock, false, false, none⟩ none)).reviseWaits n
    .possession

/-- POSSESS_SECTION (R38). -/
def possessSection (n : Nat) : Service :=
  onSection n (fun r s =>
    if r.occ.owner?.isSome then refuse s .locked []
    else if r.occ ≠ .free ∨ r.inhibit then refuse s .badState []
    else if (s.turnoutIn? n).any (fun t => t.state.slot?.isSome) then refuse s .busy []
    else accept (s.possess n) [])

def execPossessSection (tag sec : Byte) : State → Outcome :=
  run (request ⟨tag, 0x18, [sec]⟩ (possessSection sec.toNat))

/-- RELEASE_SECTION (R39). -/
def releaseSection (n : Nat) : Service :=
  onSection n (fun r s =>
    match r.occ with
    | .reserved h _ | .occupied h =>
      if h.owner ≠ .possession then refuse s .locked []
      else if h.releasePending then accept s (bFlags [true])
      else
        accept (s.releaseRequest n .possession) (bFlags [decide (s.elapsed h.since < minimumHold)])
    | .free => accept s (bFlags [false])
    | _ => refuse s .badState [])

def execReleaseSection (tag sec : Byte) : State → Outcome :=
  run (request ⟨tag, 0x19, [sec]⟩ (releaseSection sec.toNat))

/-- The first number of a list that R40 refuses, with its code and its position from 1. -/
def P60.badSection? (s : P60) : List Byte → Nat → Option (Result × Nat)
  | [], _ => none
  | n :: rest, i =>
    match s.refuseSection n.toNat with
    | some res => some (res, i)
    | none => s.badSection? rest (i + 1)

/-- Sets a section's inhibit flag to a value. Permitted, a FREE section with waiters whose flag was set is
owed a hand-over check (R40). -/
def P60.setInhibit (s : P60) (n : Nat) (on : Bool) : P60 :=
  match s.section? n with
  | none => s
  | some r =>
    let s := s.updSection n (fun r => { r with inhibit := on })
    if r.inhibit && !on && r.occ == .free && !r.waiters.isEmpty then s.oweCheck n else s

/-- The sections whose inhibit flag is set. -/
def P60.inhibited (s : P60) : List Nat := (s.sections.filter (·.inhibit)).map (·.num)

/-- INHIBIT_SECTIONS and PERMIT_SECTIONS: all or none of the list, then the write (R40, log 6). -/
def markSections (on : Bool) (l : List Byte) : Service := fun s =>
  if s.plan?.isNone then refuse s .planNotActive []
  else if ¬ inRange 1 32 l.length then refuse s .outOfRange (b1 0)
  else
    match s.badSection? l 1 with
    | some (res, i) => refuse s res (b1 i)
    | none =>
      let t := l.foldl (fun s n => s.setInhibit n.toNat on) s
      let changed := ((s.sections.zip t.sections).filter (fun (a, b) => a.inhibit != b.inhibit)).length
      ({ t with writes := t.writes ++ [.inhibits t.inhibited changed] }, none)

def execInhibitSections (tag : Byte) (secs : List Byte) : State → Outcome :=
  run (request ⟨tag, 0x1A, b1 secs.length ++ secs⟩ (markSections true secs))

def execPermitSections (tag : Byte) (secs : List Byte) : State → Outcome :=
  run (request ⟨tag, 0x1B, b1 secs.length ++ secs⟩ (markSections false secs))

/-- RESET_SECTION (R41). -/
def resetSection (n : Nat) : Service :=
  onSection n (fun r s =>
    if r.occ = .disturbed then accept (s.setOcc n (.releasing clearingTime)) []
    else refuse s .badState [])

def execResetSection (tag sec : Byte) : State → Outcome :=
  run (request ⟨tag, 0x1C, [sec]⟩ (resetSection sec.toNat))

/-- The fields of QUERY_SECTION (R42). -/
def P60.sectionFields (s : P60) (r : SectionRec) : List Byte :=
  let h := r.occ.holding?
  b1 r.num ++ b1 r.occ.code ++ b1 (ownerCode r.occ.owner?) ++ b1 (sideCode (h.bind (·.entry))) ++
    b1 (legCode (h.bind (·.leg))) ++ b4 (s.sinceOr0 (h.map (·.since))) ++
    bFlags [h.any (·.autoRelease), r.inhibit, r.discrepancy, h.any (·.releasePending)] ++
    b1 r.reading.code ++ b4 ((s.holdLeft? r.num).getD 0) ++ b4 ((s.clearingLeft? r.num).getD 0) ++
    b4 ((s.provingLeft? r.num).getD 0) ++ bList (r.waiters.map (fun k => b1 (slotNo k)))

/-- QUERY_SECTION (R42). -/
def querySection (n : Nat) (s : P60) : Answer :=
  match s.refuseSection n with
  | some res => .refuse res
  | none =>
    match s.section? n with
    | none => .refuse .notInPlan
    | some r => .ok (s.sectionFields r)

def execQuerySection (tag sec : Byte) : State → Outcome :=
  run (query ⟨tag, 0x1D, [sec]⟩ (querySection sec.toNat))

end Sys2Proof.Machine
end

