-- ==== Sys2Proof/Machine/Turnouts.lean ====
section
/-! DEFINITION. Turnouts: reports, unrequested changes, silence, the throw timer, and their requests
(chapter 3). -/

namespace Sys2Proof.Machine

/-! ## Unrequested changes -/

/-- Slot k's authority includes section n: it lies on the route between the rear's section and that of the
end of authority, or the slot overlaps it (R55); a rear off the route counts as before its first section
(log 47). -/
def P60.authorityIncludes (s : P60) (k : SlotId) (n : Nat) : Bool :=
  s.overlaps k n ||
    (match s.liveOrder? k, (s.slot k).authority.state.eoa? with
      | some o, some e =>
        let i := indexIn n o.route
        i != 0 && decide (indexIn (s.rearSec k) o.route ≤ i) && decide (i ≤ indexIn e.sec o.route)
      | _, _ => false)

/-- Sets a turnout's state. -/
def P60.setTurnout (s : P60) (t : Nat) (st : TurnoutState) : P60 :=
  s.updTurnout t (fun r => { r with state := st })

/-- An unrequested change: UNDETECTED, BRAKE for each slot whose authority includes the section, and the
section DISTURBED at once (R55, R30, R93). -/
def P60.unrequested (s : P60) (r : TurnoutRec) : P60 :=
  let s := s.setTurnout r.num .undetected
  let concerned := allSlots.filter (fun k => s.authorityIncludes k r.sec)
  let owner := s.owner? r.sec
  let s := (concerned.foldl P60.brakeRequest s).disturbOwned r.sec
  match owner with
  | some (.slot k) => s.loseFromRun k r.sec
  | _ => s

/-! ## Reports and silence -/

/-- The leg a report names, if it names one. -/
def legReported : TurnoutValue → Option Leg
  | .normal => some .normal
  | .reverse => some .reverse
  | .moving | .noDetection => none

/-- A report of a turnout that is neither in a throw nor locked (R46). -/
def P60.reportUnlocked (s : P60) (r : TurnoutRec) (v : TurnoutValue) : P60 :=
  match r.state, legReported v with
  | .at x, some y => if x = y then s else s.detect r y
  | .at _, none => s.setTurnout r.num .undetected
  | .undetected, some y => s.detect r y
  | _, _ => s

/-- A report of a locked turnout that is not in a throw (R55). -/
def P60.reportLocked (s : P60) (r : TurnoutRec) (v : TurnoutValue) : P60 :=
  match r.state, legReported v with
  | .at x, some y => if x = y then s else s.unrequested r
  | .at _, none => s.unrequested r
  | .undetected, some y => s.detect r y
  | .undetected, none => if v = .moving then s.unrequested r else s
  | _, _ => s

/-- A turnout report (R46, R52, R55). At a throw's end the arbiter is consulted here, and the hand-over check that
the detection owes is made at the command's end (log 45). -/
def P60.turnoutReport (s : P60) (t : Nat) (v : TurnoutValue) : P60 :=
  match s.turnout? t with
  | none => s
  | some r =>
    let s := s.updTurnout t (fun r => { r with last := .report v })
    match r.state with
    | .moving x _ _ => if legReported v = some x then (s.detect r x).arbiter else s
    | _ => if s.locked r then s.reportLocked r v else s.reportUnlocked r v

/-- A turnout machine falls silent; a THROW of its that the port has not begun stays in the command queue
(R54, R56, log 46). -/
def P60.turnoutSilent (s : P60) (t : Nat) : P60 :=
  match s.turnout? t with
  | none => s
  | some r =>
    let s := s.updTurnout t (fun r => { r with last := .silent })
    match r.state with
    | .moving _ _ _ =>
      let s := s.setTurnout t .undetected
      (if s.locked r then s.unrequested r else s).arbiter
    | .at _ => if s.locked r then s.unrequested r else s.setTurnout t .undetected
    | _ => s

/-! ## The throw timer -/

def P60.throwLeft? (s : P60) (t : Nat) : Option Nat :=
  (s.turnout? t).bind (fun r => match r.state with | .moving _ _ left => some left | _ => none)

/-- The throw timer runs out: the command again at a first expiry over an unowned section, otherwise
failure (R53). -/
def P60.throwExpires (s : P60) (t : Nat) : P60 :=
  match s.turnout? t with
  | none => s
  | some r =>
    match r.state with
    | .moving x sl _ =>
      if r.retry = 0 ∧ ¬ s.locked r then
        (s.updTurnout t (fun r => { r with state := .moving x sl throwLimit, retry := 1 })).commandTo
          .turnout t (.throw x)
      else ((s.setTurnout t .failed).raise .turnoutFailed).arbiter
    | _ => s

def execThrowTimerExpiry (turnout : Byte) : State → Outcome :=
  run (fun s => expiry (s.throwLeft? turnout.toNat) (·.throwExpires turnout.toNat) s)

/-! ## Requests -/

/-- THROW_TURNOUT; its outcomes are coded as R48's table lists them (R47, R48, R205, log 15). -/
def throwTurnout (n : Nat) (leg : Byte) : Service := fun s =>
  match s.plan?, inRange 1 48 n, legOf leg with
  | none, _, _ => refuse s .planNotActive []
  | some _, true, some x =>
    if (s.turnout? n).isNone then refuse s .notInPlan []
    else
      match s.throwRequest n x with
      | (s, .done) => accept s (b1 1)
      | (s, .queued) => accept s (b1 2 ++ b1 (s.queuePlace n))
      | (s, .inProgress) => accept s (b1 3)
      | (_, .locked) => refuse s .locked []
      | (_, .failed) => refuse s .badState []
      | (_, .movingOther) => refuse s .busy []
  | some _, _, _ => refuse s .outOfRange []

def execThrowTurnout (tag turnout leg : Byte) : State → Outcome :=
  run (request ⟨tag, 0x20, [turnout, leg]⟩ (throwTurnout turnout.toNat leg))

/-- RESET_TURNOUT (R57). -/
def resetTurnout (n : Nat) : Service := fun s =>
  match s.refuseTurnout n with
  | some res => refuse s res []
  | none =>
    if (s.turnout? n).map (·.state) = some .failed then
      accept ((s.updTurnout n (fun r => { r with state := .undetected, retry := 0 })).commandTo .turnout n
        .poll) []
    else refuse s .badState []

def execResetTurnout (tag turnout : Byte) : State → Outcome :=
  run (request ⟨tag, 0x21, [turnout]⟩ (resetTurnout turnout.toNat))

/-- The leg of a turnout's entry in the throw queue (R44). -/
def P60.queuedLeg? (s : P60) (t : Nat) : Option Leg :=
  (s.throwQueue.find? (fun e => e.1 == t)).map (·.2)

/-- The leg of the throw in progress (R58). -/
def TurnoutState.throwLeg? : TurnoutState → Option Leg
  | .moving x _ _ => some x
  | _ => none

/-- The fields of QUERY_TURNOUT (R58). -/
def P60.turnoutFields (s : P60) (r : TurnoutRec) : List Byte :=
  b1 r.num ++ b1 r.sec ++ b1 r.state.code ++ bFlags [s.locked r] ++ b1 (ownerCode (s.owner? r.sec)) ++
    b1 r.last.code ++ b1 (legCode (s.queuedLeg? r.num)) ++ b1 (s.queuePlace r.num) ++
    b1 ((r.state.slot?.map ThrowSlot.code).getD 0) ++ b1 (legCode r.state.throwLeg?) ++
    b4 ((s.throwLeft? r.num).getD 0) ++ b1 r.retry

/-- QUERY_TURNOUT (R58). -/
def queryTurnout (n : Nat) (s : P60) : Answer :=
  match s.refuseTurnout n with
  | some res => .refuse res
  | none =>
    match s.turnout? n with
    | none => .refuse .notInPlan
    | some r => .ok (s.turnoutFields r)

def execQueryTurnout (tag turnout : Byte) : State → Outcome :=
  run (query ⟨tag, 0x22, [turnout]⟩ (queryTurnout turnout.toNat))

end Sys2Proof.Machine
end

