-- ==== Sys2Proof/Machine/Orders.lean ====
section
/-! DEFINITION. The order list's requests: edits, stopping and resuming, and reading (chapter 4). -/

namespace Sys2Proof.Machine

/-! ## The static route check -/

/-- No number stands twice in a list. -/
def distinct : List Nat → Bool
  | [] => true
  | n :: rest => !rest.contains n && distinct rest

/-- The first failing item of the static route check (R63). -/
def routeRefusal (p : Plan) (route : List Nat) (pad : Nat) : Option Result :=
  if ¬ inRange 1 40 route.length ∨ ¬ route.all (inRange 1 240) ∨ ¬ inRange 1 160 pad then some .outOfRange
  else if route.any (fun n => (p.section? n).isNone) then some .notInPlan
  else
    match p.pad? pad with
    | none => some .notInPlan
    | some d =>
      if ¬ distinct route ∨ (p.derive route).isNone ∨ route.getLast? ≠ some d.spur then
        some .routeInvalid
      else none

/-! ## INSERT_ORDERS -/

/-- The record of an inserted order (R60). -/
def orderRecord (d : OrderDesc) (kind : OrderKind) (slot : SlotId) : Order :=
  { id := d.id.toNat
    kind
    slot
    telescope := d.telescope.toNat
    pad := d.pad.toNat
    route := d.route.map (·.toNat)
    state := .queued
    routeIndex := 0
    interventions := 0
    promise := kind == .deliver }

/-- The telescope operand fits the order's kind (R65 item c). -/
def telescopeFits (kind : OrderKind) (n : Nat) : Bool :=
  match kind with
  | .run => n == 0
  | _ => inRange 1 64 n

/-- Items c to f for one order of a batch (R65; id 0: log 38). -/
def P60.orderRefusal (s : P60) (p : Plan) (before : List Order) (d : OrderDesc) : Result ⊕ Order :=
  match orderKindOf d.kind, slotOf d.slot with
  | some kind, some slot =>
    if d.id = 0 ∨ ¬ telescopeFits kind d.telescope.toNat then .inl .outOfRange
    else
      match routeRefusal p (d.route.map (·.toNat)) d.pad.toNat with
      | some res => .inl res
      | none =>
        if kind = .deliver ∧
            ((s.promisedTo? d.pad.toNat).isSome ∨
              before.any (fun o => o.kind == .deliver && o.pad == d.pad.toNat)) then .inl .padPromised
        else if kind = .deliver ∧ (s.holder? d.pad.toNat).isSome then .inl .badState
        else .inr (orderRecord d kind slot)
  | _, _ => .inl .outOfRange

/-- The batch is examined in order; the first failing item refuses it with its order's index (R65). -/
def P60.examine (s : P60) (p : Plan) : List Order → List OrderDesc → Nat → (Result × Nat) ⊕ List Order
  | before, [], _ => .inr before
  | before, d :: rest, i =>
    if (s.order? d.id.toNat).isSome ∨ before.any (fun o => o.id == d.id.toNat) then .inl (.duplicateId, i)
    else if 64 < s.orders.length + i then .inl (.listFull, i)
    else
      match s.orderRefusal p before d with
      | .inl res => .inl (res, i)
      | .inr o => s.examine p (before ++ [o]) rest (i + 1)

/-- Puts orders after the order of an id. -/
def insertAfter (id : Nat) (new : List Order) : List Order → List Order
  | [] => []
  | o :: rest => if o.id = id then o :: (new ++ rest) else o :: insertAfter id new rest

/-- Puts orders at a position (R66). -/
def placeAt (pos : Position) (new l : List Order) : List Order :=
  match pos with
  | .head => new ++ l
  | .after id => insertAfter id.toNat new l
  | _ => l ++ new

/-- A position's own refusal: a form that is none of the three, or AFTER an id not in the list (R65, R67). -/
def P60.positionRefusal (s : P60) (pos : Position) : Option Result :=
  match pos with
  | .other _ => some .outOfRange
  | .after id => if (s.order? id.toNat).isNone then some .unknownId else none
  | _ => none

/-- INSERT_ORDERS; a refusal at no order of the batch carries the index 0 (R65, R66, log 16). -/
def insertOrders (pos : Position) (batch : List OrderDesc) : Service := fun s =>
  if s.scanning then refuse s .listHeld (b1 0)
  else
    match s.plan? with
    | none => refuse s .planNotActive (b1 0)
    | some p =>
      if ¬ inRange 1 4 batch.length then refuse s .outOfRange (b1 0)
      else
        match s.positionRefusal pos with
        | some res => refuse s res (b1 0)
        | none =>
          match s.examine p [] batch 1 with
          | .inl (res, i) => refuse s res (b1 i)
          | .inr new =>
            let first := !s.orders.any (fun o => !o.state.finished)
            let l := placeAt pos new s.orders
            accept { s with orders := l }.trigger (b1 0 ++ bFlags [first] ++ b1 l.length)

def execInsertOrders (tag : Byte) (pos : Position) (batch : List OrderDesc) : State → Outcome :=
  run (requestAfterTransfer ⟨tag, 0x28, positionBytes pos ++ bList (batch.map orderBytes)⟩ (insertOrders pos batch))

/-! ## MOVE_ORDER, REMOVE_ORDER, COLLECT_FINISHED, CANCEL_ORDER -/

/-- The order taken out and put at a position (R67). -/
def moved (o : Order) (pos : Position) (l : List Order) : List Order :=
  placeAt pos [o] (l.filter (fun x => x.id != o.id))

/-- MOVE_ORDER (R67). -/
def moveOrder (id : Half) (pos : Position) : Service := fun s =>
  if s.scanning then refuse s .listHeld []
  else
    match s.order? id.toNat with
    | none => refuse s .unknownId []
    | some o =>
      match s.positionRefusal pos with
      | some res => refuse s res []
      | none =>
        if o.state ≠ .queued then refuse s .badState []
        else if pos = .after id then accept s []
        else
          let l := moved o pos s.orders
          accept (if l = s.orders then s else { s with orders := l }.trigger) []

def execMoveOrder (tag : Byte) (id : Half) (pos : Position) : State → Outcome :=
  run (request ⟨tag, 0x29, b2 id.toNat ++ positionBytes pos⟩ (moveOrder id pos))

/-- The flags NOTHING_REMOVED, bit 0, and EMPTY_AFTER, bit 1, of every reply that carries them (R68, R69, R77,
log 15). -/
def removalFlags (nothing : Bool) (l : List Order) : List Byte := bFlags [nothing, l.isEmpty]

/-- REMOVE_ORDER (R68). -/
def removeOrder (id : Half) : Service := fun s =>
  if s.scanning then refuse s .listHeld (removalFlags true s.orders)
  else
    match s.order? id.toNat with
    | none => refuse s .unknownId (removalFlags true s.orders)
    | some o =>
      if o.state.live then refuse s .badState (removalFlags true s.orders)
      else
        let l := s.orders.filter (fun x => x.id != o.id)
        accept { s with orders := l } (removalFlags false l ++ b1 o.state.code ++ b1 o.state.reasonCode)

def execRemoveOrder (tag : Byte) (id : Half) : State → Outcome :=
  run (request ⟨tag, 0x2A, b2 id.toNat⟩ (removeOrder id))

/-- An order's list position, from 1 (R79). -/
def P60.listPosition (s : P60) (id : Nat) : Nat := indexIn id (s.orders.map (·.id))

/-- The fields of QUERY_ORDER (R79). -/
def P60.orderFields (s : P60) (o : Order) : List Byte :=
  b2 o.id ++ b1 o.kind.code ++ b1 (slotNo o.slot) ++ b1 o.telescope ++ b1 o.pad ++
    b1 (s.listPosition o.id) ++ b1 o.state.code ++ b1 (stageCode o.state.stage?) ++ b1 o.state.stopCode ++
    b1 o.state.reasonCode ++ b1 o.routeIndex ++ b1 o.interventions ++ bFlags [o.promise] ++
    bList (o.route.map b1)

/-- COLLECT_FINISHED (R69). -/
def collectFinished : Service := fun s =>
  if s.scanning then refuse s .listHeld (removalFlags true s.orders)
  else
    match s.orders.find? (fun o => o.state.finished) with
    | none => accept s (removalFlags true s.orders)
    | some o =>
      let l := s.orders.filter (fun x => x.id != o.id)
      accept { s with orders := l } (s.orderFields o ++ b1 (s.listPosition o.id) ++ removalFlags false l)

def execCollectFinished (tag : Byte) : State → Outcome := run (request ⟨tag, 0x2B, []⟩ collectFinished)

/-- CANCEL_ORDER (R70). -/
def cancelOrder (id : Half) : Service := fun s =>
  if s.scanning then refuse s .listHeld []
  else
    match s.order? id.toNat with
    | none => refuse s .unknownId []
    | some o =>
      match o.state with
      | .queued | .suspended _ _ => accept (s.finishOrder o .cancelled) []
      | _ => refuse s .badState []

def execCancelOrder (tag : Byte) (id : Half) : State → Outcome :=
  run (request ⟨tag, 0x2C, b2 id.toNat⟩ (cancelOrder id))

/-! ## STOP_ORDER and RESUME_ORDER -/

/-- State and stage of an order as it stands (R71). -/
def P60.stateAndStage (s : P60) (id : Nat) : List Byte :=
  match s.order? id with
  | none => b1 0 ++ b1 0
  | some o => b1 o.state.code ++ b1 (stageCode o.state.stage?)

/-- STOP_ORDER (R71). -/
def stopOrder (id : Half) : Service := fun s =>
  match s.order? id.toNat with
  | none => refuse s .unknownId []
  | some o =>
    match o.state with
    | .active g _ =>
      if g = .stopping ∨ g.isDocking then refuse s .badState []
      else
        let s := if g = .running then s.cutBack o.slot else s
        let s := s.suspensionCause o.slot .stopped
        accept s (s.stateAndStage o.id)
    | _ => refuse s .badState []

def execStopOrder (tag : Byte) (id : Half) : State → Outcome :=
  run (request ⟨tag, 0x2D, b2 id.toNat⟩ (stopOrder id))

/-- RESUME_ORDER (R74). -/
def resumeOrder (id : Half) : Service := fun s =>
  match s.order? id.toNat with
  | none => refuse s .unknownId []
  | some o =>
    match o.state with
    | .suspended g _ =>
      if s.mayResume o then accept (s.resume o g) (b1 g.code) else refuse s .badState []
    | _ => refuse s .badState []

def execResumeOrder (tag : Byte) (id : Half) : State → Outcome :=
  run (request ⟨tag, 0x2E, b2 id.toNat⟩ (resumeOrder id))

/-! ## Reading the list -/

/-- QUERY_ORDER (R79). -/
def queryOrder (id : Half) (s : P60) : Answer :=
  match s.order? id.toNat with
  | none => .refuse .unknownId
  | some o => .ok (s.orderFields o)

def execQueryOrder (tag : Byte) (id : Half) : State → Outcome :=
  run (query ⟨tag, 0x2F, b2 id.toNat⟩ (queryOrder id))

/-- Orders of the list in states that satisfy a test. -/
def P60.countOrders (s : P60) (p : OrderState → Bool) : Nat := (s.orders.filter (fun o => p o.state)).length

/-- One entry of LIST_ORDERS (R80). -/
def orderEntry (o : Order) : List Byte :=
  b2 o.id ++ b1 o.kind.code ++ b1 (slotNo o.slot) ++ b1 o.state.code ++ b1 (stageCode o.state.stage?) ++
    b1 o.state.reasonCode

/-- LIST_ORDERS (R80). -/
def listOrders (start : Nat) (s : P60) : Answer :=
  if ¬ inRange 1 64 start then .refuse .outOfRange
  else
    let rest := s.orders.drop (start - 1)
    .ok
      (b1 s.orders.length ++ b1 (s.countOrders (· == .queued)) ++
        b1 (s.countOrders (fun st => match st with | .active _ _ => true | _ => false)) ++
        b1 (s.countOrders (fun st => match st with | .suspended _ _ => true | _ => false)) ++
        b1 (s.countOrders OrderState.finished) ++ bList ((rest.take 32).map orderEntry) ++
        bFlags [decide (32 < rest.length)])

/-- LIST_ORDERS waits as a query does while a transfer is written; that it does is the model's choice (R80, R141,
log 52). -/
def execListOrders (tag start : Byte) : State → Outcome :=
  run (query ⟨tag, 0x30, [start]⟩ (listOrders start.toNat))

end Sys2Proof.Machine
end

