-- ==== Sys2Proof/Machine/Reports.lean ====
section
/-! DEFINITION. The queries of waits, deadlock, authority and motion (R100, R101, R119, R138), and the end
of an overdue passage (R131). -/

namespace Sys2Proof.Machine

/-! ## Waits -/

/-- The deadlock record stands: each member waits on its section and on the next member, the last on the
first (R101). -/
def P60.deadlockStands (s : P60) (d : Deadlock) : Bool :=
  let slots := d.members.map (·.1)
  (d.members.zip (slots.drop 1 ++ slots.take 1)).all (fun ((k, n), next) =>
    match (s.slot k).progress.wait with
    | some w => w.sec == n && w.on == .slot next
    | none => false)

/-- Slot k is a member of the record, and the record stands (R100). -/
def P60.inDeadlock (s : P60) (k : SlotId) : Bool :=
  match s.deadlock with
  | none => false
  | some d => (d.members.map (·.1)).contains k && s.deadlockStands d

/-- Place of a slot in a section's waiter queue, from 1, or 0 (R100). -/
def P60.waitPlace (s : P60) (k : SlotId) (n : Nat) : Nat :=
  match s.section? n with
  | none => 0
  | some r => indexIn k.val (r.waiters.map (·.val))

/-- The id of a slot's ACTIVE or SUSPENDED order, or 0. -/
def P60.liveId (s : P60) (k : SlotId) : Nat := ((s.liveOrder? k).map (·.id)).getD 0

/-- An entry of QUERY_WAITS (R100). -/
def P60.waitEntry (s : P60) (k : SlotId) : List Byte :=
  let w := (s.slot k).progress.wait
  let sec := (w.map (·.sec)).getD 0
  b1 (slotNo k) ++ b2 (s.liveId k) ++ b1 (((s.liveOrder? k).map (·.routeIndex)).getD 0) ++
    b1 (s.slot k).progress.reach ++ b1 sec ++ b1 ((w.map (fun w => w.on.code)).getD 0) ++
    b1 (s.waitPlace k sec) ++ b4 (s.sinceOr0 (w.map (·.since))) ++ bFlags [s.inDeadlock k]

/-- QUERY_WAITS (R100). -/
def queryWaits (s : P60) : Answer := .ok (allSlots.flatMap s.waitEntry)

def execQueryWaits (tag : Byte) : State → Outcome := run (query ⟨tag, 0x34, []⟩ queryWaits)

/-- QUERY_DEADLOCK (R101). -/
def queryDeadlock (s : P60) : Answer :=
  match s.deadlock with
  | none => .ok (b1 0)
  | some d =>
    .ok
      (b1 d.members.length ++ d.members.flatMap (fun m => b1 (slotNo m.1) ++ b1 m.2) ++
        b4 (s.elapsed d.time) ++ bFlags [s.deadlockStands d])

def execQueryDeadlock (tag : Byte) : State → Outcome := run (query ⟨tag, 0x35, []⟩ queryDeadlock)

/-! ## Authority -/

/-- A last evaluation's fields, all 0 if none (R119). -/
def P60.evaluationFields (s : P60) : Option Evaluation → List Byte
  | none => List.replicate 20 0
  | some v =>
    b4 (s.elapsed v.time) ++ b1 v.basis.code ++ b4i v.d ++ b2 v.ceiling ++ b2 v.e ++ b2 v.p ++ b2 v.t ++
      b2 v.speed ++ b1 v.targets

/-- A last intervention's fields, all 0 if absent (R119). -/
def P60.interventionFields (s : P60) : Option Intervention → List Byte
  | none => List.replicate 15 0
  | some v =>
    b4 (s.elapsed v.time) ++ b1 v.basis.code ++ b4i v.d ++ b2 v.p ++ b2 v.t ++ b2 v.speed

/-- The fields of QUERY_AUTHORITY (R119). -/
def P60.authorityFields (s : P60) (k : SlotId) : List Byte :=
  let a := (s.slot k).authority
  let e := a.state.eoa?
  b1 (slotNo k) ++ b1 a.state.code ++ b1 ((e.map (·.sec)).getD 0) ++ b4 ((e.map (·.off)).getD 0) ++
    b1 ((e.map (fun e => e.kind.code)).getD 0) ++ b2 a.sentCeiling ++
    b4 (if (s.slot k).status = .empty then 0 else s.lookahead k) ++ s.evaluationFields a.lastEval ++
    s.interventionFields a.lastIntervention ++ b1 (((s.liveOrder? k).map (·.interventions)).getD 0)

/-- A query naming a slot: OUT_OF_RANGE outside 1..6 (R119, R138, R176). -/
def slotQuery (n : Byte) (f : P60 → SlotId → List Byte) (s : P60) : Answer :=
  match slotOf n with
  | none => .refuse .outOfRange
  | some k => .ok (f s k)

def execQueryAuthority (tag slot : Byte) : State → Outcome :=
  run (query ⟨tag, 0x36, [slot]⟩ (slotQuery slot P60.authorityFields))

/-! ## Motion -/

/-- The fields of QUERY_MOTION (R138). -/
def P60.motionFields (s : P60) (k : SlotId) : List Byte :=
  let x := s.slot k
  let t := x.timer
  b1 (slotNo k) ++ b1 x.status.code ++ b2 (s.liveId k) ++
    b1 (stageCode ((s.liveOrder? k).bind (fun o => o.state.stage?))) ++
    bFlags [x.motion.standing, x.motion.resent] ++ b4 (s.sinceOr0 x.motion.lastReport) ++
    bFlags [x.motion.releaseAhead] ++ b1 t.state.code ++ b1 t.cause.code ++ b1 t.sec ++ b4 t.period ++
    b4 t.count ++ b1 ((t.last.map (·.sec)).getD 0) ++ b4 ((t.last.map (·.elapsed)).getD 0) ++
    b4 ((t.last.map (·.allowance)).getD 0)

def execQueryMotion (tag slot : Byte) : State → Outcome :=
  run (query ⟨tag, 0x37, [slot]⟩ (slotQuery slot P60.motionFields))

/-- The rest of a RUNNING passage timer's period (R127). -/
def P60.passageLeft? (s : P60) (k : SlotId) : Option Nat :=
  let t := (s.slot k).timer
  if t.state = .running then some (t.period - t.count) else none

def execPassageOverdue (slot : SlotId) : State → Outcome :=
  run (fun s => expiry (s.passageLeft? slot) (·.overdue slot) s)

end Sys2Proof.Machine
end

