-- ==== Sys2Proof/Machine/Pads.lean ====
section
/-! DEFINITION. Pads and telescopes: their requests (section 8.7), the stage timer's end (R149), and the
end of a storage write with what waited on it (R12, R40, R141, R146, R147, R155, R166, R181). -/

namespace Sys2Proof.Machine

/-! ## LOCK_PAD, QUERY_PAD, QUERY_TELESCOPE -/

/-- LOCK_PAD (R154). -/
def lockPad (n : Nat) : Service := fun s =>
  match s.refusePad n with
  | some res => refuse s res []
  | none =>
    if (s.orderInDocking? n).isSome then refuse s .badState []
    else accept (s.commandTo .pad n .padLock) []

def execLockPad (tag pad : Byte) : State → Outcome :=
  run (request ⟨tag, 0x38, [pad]⟩ (lockPad pad.toNat))

/-- The fields of QUERY_PAD (R156). -/
def P60.padFields (s : P60) (p : PlanPad) (r : PadRec) : List Byte :=
  let o := s.orderInDocking? p.num
  let d := (o.map (fun o => (s.slot o.slot).docking)).getD .initial
  b1 p.num ++ b1 p.spur ++ b1 ((s.holder? p.num).getD 0) ++ b1 r.clamp.code ++ b4 (s.sinceOr0 r.lastReport) ++
    b2 (((s.promisedTo? p.num).map (·.id)).getD 0) ++ bFlags [s.exposed r] ++
    b2 ((o.map (·.id)).getD 0) ++ b1 ((o.map (fun o => slotNo o.slot)).getD 0) ++
    b1 (stageCode (o.bind (fun o => o.state.stage?))) ++ b1 d.awaiting.code ++ b1 d.due.code ++
    b1 d.timer.code ++ b4 d.timer.left

/-- QUERY_PAD (R156). -/
def queryPad (n : Nat) (s : P60) : Answer :=
  match s.refusePad n with
  | some res => .refuse res
  | none =>
    match s.planPad? n, s.pad? n with
    | some p, some r => .ok (s.padFields p r)
    | _, _ => .refuse .notInPlan

def execQueryPad (tag pad : Byte) : State → Outcome :=
  run (query ⟨tag, 0x3A, [pad]⟩ (queryPad pad.toNat))

/-- The ACTIVE or SUSPENDED order that names a telescope, the first in the list where several do (R155, R157,
log 56). -/
def P60.orderOfTelescope? (s : P60) (t : Nat) : Option Order :=
  s.orders.find? (fun o => o.telescope == t && o.state.live)

/-- The fields of QUERY_TELESCOPE (R157). -/
def P60.telescopeFields (s : P60) (t : Nat) : List Byte :=
  let l := s.location t
  let i : Identity := match l with | .transporter i => i | _ => ⟨0, 0⟩
  let slot := match l with | .transporter i => ((s.slotOf? i).map slotNo).getD 0 | _ => 0
  b1 l.code ++ b1 (match l with | .pad n => n | _ => 0) ++ [i.maker] ++ b4 i.serial.toNat ++ b1 slot ++
    b2 (((s.orderOfTelescope? t).map (·.id)).getD 0)

/-- QUERY_TELESCOPE (R157). -/
def queryTelescope (t : Nat) (s : P60) : Answer :=
  if inRange 1 64 t then .ok (s.telescopeFields t) else .refuse .outOfRange

def execQueryTelescope (tag telescope : Byte) : State → Outcome :=
  run (query ⟨tag, 0x3B, [telescope]⟩ (queryTelescope telescope.toNat))

/-! ## PLACE_TELESCOPE -/

/-- The location asked for, its numbers in range (R155, first case). -/
inductive Place where
  | pad (n : Nat)
  | slot (k : SlotId)
  | unplaced
  deriving DecidableEq, Repr

def placeOf : PlaceTarget → Option Place
  | .pad n => if inRange 1 160 n.toNat then some (.pad n.toNat) else none
  | .transporter n => (slotOf n).map .slot
  | .unplaced => some .unplaced
  | .other _ => none

/-- The location to write; none for a slot that is not bound (R155). -/
def P60.locationOf (s : P60) : Place → Option Location
  | .pad n => some (.pad n)
  | .slot k => (s.slot k).ident.map .transporter
  | .unplaced => some .unplaced

/-- A slot to which an identity is bound has an ACTIVE or SUSPENDED order (R155). -/
def P60.busyWith (s : P60) : Location → Bool
  | .transporter i => (s.slotOf? i).any (fun k => (s.liveOrder? k).isSome)
  | _ => false

/-- The refusals of R155 that come before the case of no change. -/
def P60.placeRefusal (s : P60) (t : Nat) (p : Place) : Option Result :=
  match p with
  | .pad n =>
    if s.plan?.isNone then some .planNotActive
    else if (s.planPad? n).isNone then some .notInPlan
    else if (s.orderOfTelescope? t).isSome ∨ s.busyWith (s.location t) then some .badState
    else none
  | .slot k =>
    if (s.orderOfTelescope? t).isSome ∨ s.busyWith (s.location t) ∨ (s.liveOrder? k).isSome then
      some .badState
    else none
  | .unplaced =>
    if (s.orderOfTelescope? t).isSome ∨ s.busyWith (s.location t) then some .badState else none

/-- The refusals of R155 that come after it. -/
def P60.placeBarred (s : P60) (p : Place) : Option Result :=
  match p with
  | .pad n =>
    if (s.holder? n).isSome then some .badState
    else if (s.promisedTo? n).isSome then some .padPromised
    else none
  | .slot k => if (s.slot k).ident.isNone ∨ s.laden k then some .badState else none
  | .unplaced => none

/-- PLACE_TELESCOPE (R155). -/
def placeTelescope (t : Nat) (target : PlaceTarget) : Service := fun s =>
  match inRange 1 64 t, placeOf target with
  | true, some p =>
    match s.placeRefusal t p with
    | some res => refuse s res []
    | none =>
      if s.locationOf p = some (s.location t) then accept s []
      else
        match s.placeBarred p, s.locationOf p with
        | some res, _ => refuse s res []
        | none, none => refuse s .badState []
        | none, some l => ({ s with writes := s.writes ++ [.place t l] }, none)
  | _, _ => refuse s .outOfRange []

def execPlaceTelescope (tag telescope : Byte) (target : PlaceTarget) : State → Outcome :=
  run (requestAfterTransfer ⟨tag, 0x39, [telescope] ++ targetBytes target⟩ (placeTelescope telescope.toNat target))

/-! ## The stage timer -/

def P60.stageLeft? (s : P60) (k : SlotId) : Option Nat :=
  match (s.slot k).docking.timer with
  | .running n => some n
  | _ => none

def execStageTimerExpiry (slot : SlotId) : State → Outcome :=
  run (fun s => expiry (s.stageLeft? slot) (·.stageExpires slot) s)

/-! ## The end of a write -/

/-- A transfer's entry is written, and a load state that changed is judged by the hold unit (R141, R178). -/
def P60.transfer (s : P60) (t : Nat) (l : Location) : P60 := (s.setLocation t l).rejudgeHolds

/-- A reported load is set at the slot if the identity is still bound there (R142). -/
def P60.setLoadOf (s : P60) (k : SlotId) (i : Identity) (present : Bool) : P60 :=
  if (s.slot k).ident = some i then s.setLoad k present else s

/-- The write of a transfer at LIFTED has ended (R146). An order no longer live is left as it is (log 18). -/
def P60.liftedWritten (s : P60) (k : SlotId) (i : Identity) (id t : Nat) : P60 :=
  let s := (s.setLoadOf k i true).transfer t (.transporter i)
  match s.order? id with
  | none => s
  | some o => if o.state.live then s.finishOrder o .done else s

/-- The order goes on to DOCK_CLAMP: with PAD_LOCK sent while ACTIVE, kept SUSPENDED otherwise (R147,
log 18). -/
def P60.toClamp (s : P60) (k : SlotId) (o : Order) : P60 :=
  match o.state with
  | .active _ _ => s.sendPadLock k
  | .suspended _ c => s.setOrderState o.id (.suspended .dockClamp c)
  | _ => s

/-- The write of a transfer at LOWERED has ended (R147, R76). -/
def P60.loweredWritten (s : P60) (k : SlotId) (i : Identity) (id t pad : Nat) : P60 :=
  let s := (s.setLoadOf k i false).transfer t (.pad pad)
  let s := s.updOrder id (fun o => { o with promise := false })
  match s.order? id with
  | none => s
  | some o => s.toClamp k o

/-- The answer to the request at the head that waited for a write (R193). -/
def P60.answerHead (s : P60) (a : Answer) : P60 :=
  match s.requests with
  | [] => s
  | r :: _ => s.answer r a

/-- What the end of a write does, and the answer to the request that waited for it, if one did. -/
def P60.written (s : P60) : NvmWrite → P60 × Option Answer
  | .planCommit p => (s.commitPlan p, some (.ok p.commitFields))
  | .inhibits set changed =>
    ({ s with nvm := { s.nvm with inhibits := set } }, some (.ok (b1 changed)))
  | .acceptance l => ({ s with nvm := { s.nvm with acceptance := l } }, some (.ok []))
  | .policies a b => ({ s with nvm := { s.nvm with ladenPolicy := a, unladenPolicy := b } }, some (.ok []))
  | .place t l => (s.transfer t l, some (.ok []))
  | .lifted k i id t => (s.liftedWritten k i id t, none)
  | .lowered k i id t pad => (s.loweredWritten k i id t pad, none)

/-- The oldest write in progress ends (R141, R193, log 5); nothing where none is in progress (log 3). -/
def P60.writeEnds (s : P60) : P60 :=
  match s.writes with
  | [] => s.quiet
  | w :: rest =>
    match ({ s with out := [], tasks := [], scanDue := false, writes := rest }).written w with
    | (s, some a) => s.settle.answerHead a
    | (s, none) => s.settle

def execNvmWriteComplete : State → Outcome := run P60.writeEnds

end Sys2Proof.Machine
end

