-- ==== Sys2Proof/Machine/RosterRequests.lean ====
section
/-! DEFINITION. The requests of acceptance and roster (R166, R169, R175, R176). -/

namespace Sys2Proof.Machine

/-- The index, from 1, of the first entry that selects no field (R166). -/
def emptyEntry? : List AcceptEntry → Nat → Option Nat
  | [], _ => none
  | e :: rest, i =>
    if e.maker.isNone ∧ e.model.isNone ∧ e.revision.isNone then some i else emptyEntry? rest (i + 1)

/-- SET_ACCEPTANCE (R166). -/
def setAcceptance (l : List AcceptEntry) : Service := fun s =>
  if 24 < l.length then refuse s .outOfRange (b1 0)
  else
    match emptyEntry? l 1 with
    | some i => refuse s .outOfRange (b1 i)
    | none => ({ s with writes := s.writes ++ [.acceptance l] }, none)

def execSetAcceptance (tag : Byte) (entries : List AcceptEntry) : State → Outcome :=
  run (request ⟨tag, 0x40, bList (entries.map acceptBytes)⟩ (setAcceptance entries))

/-- QUERY_ACCEPTANCE (R166). -/
def queryAcceptance (s : P60) : Answer := .ok (bList (s.nvm.acceptance.map acceptBytes))

def execQueryAcceptance (tag : Byte) : State → Outcome := run (query ⟨tag, 0x41, []⟩ queryAcceptance)

/-- An identity's five bytes, zeros for none (R205). -/
def identOrZero (i : Option Identity) : List Byte := identBytes (i.getD ⟨0, 0⟩)

/-- Laden or unladen (R176; log 15). -/
def P60.ladenCode (s : P60) (k : SlotId) : List Byte := b1 (levelCode (s.laden k))

/-- A slot's entry in QUERY_ROSTER (R176). -/
def P60.rosterEntry (s : P60) (k : SlotId) : List Byte :=
  let x := s.slot k
  b1 x.status.code ++ identOrZero x.ident ++ bFlags [x.fault.isSome] ++ b1 (faultCode x.fault) ++ s.ladenCode k

/-- The change set's members, in slot number order (R173; log 26). -/
def P60.changedSlots (s : P60) : List SlotId :=
  allSlots.filter (fun k => s.changeSet.any (·.contains k))

/-- QUERY_ROSTER: it makes the change set active if it was inactive (R173, R176). -/
def queryRoster : Service := fun s =>
  accept { s with changeSet := some (s.changeSet.getD []) }
    (bList (s.changedSlots.map (fun k => b1 (slotNo k))) ++ allSlots.flatMap s.rosterEntry)

def execQueryRoster (tag : Byte) : State → Outcome := run (requestAfterTransfer ⟨tag, 0x42, []⟩ queryRoster)

/-- The kind code of the message in a place, 0 for none (R176; log 15). -/
def placeCode (p : Option Placed) : Nat := (p.map (fun x => x.msg.code)).getD 0

def pointBytes (p : Point) : List Byte := [p.sec] ++ b4 p.off.toNat

/-- The fields of QUERY_SLOT; a reported load that is absent is coded 00h (R176, R205). The clamped flags of the five
applied figures stand together in one flag byte behind the figures: the model's reading, log 15. -/
def P60.slotFields (s : P60) (k : SlotId) : List Byte :=
  let x := s.slot k
  let f := x.figures
  b1 (slotNo k) ++ b1 x.status.code ++ identOrZero x.ident ++ [x.model, x.revision] ++ b4 f.length ++
    b2 f.ladenSpeed ++ b2 f.ladenDecel ++ b2 f.unladenSpeed ++ b2 f.unladenDecel ++ bFlags f.clamped ++
    b1 (if x.reportedLoad then 1 else 0) ++ s.ladenCode k ++ bFlags [x.fault.isSome] ++ b1 (faultCode x.fault) ++
    [x.lastFault] ++ pointBytes x.announcedFront ++ pointBytes x.announcedRear ++
    b1 ((x.peer.map (·.failures)).getD 0) ++ b4 (s.pollInterval k) ++
    b4 (s.sinceOr0 (x.peer.bind (·.lastReply))) ++ b1 (placeCode (x.peer.bind (·.bind))) ++
    b1 (placeCode (x.peer.bind (·.motion))) ++ b1 (placeCode (x.peer.bind (·.docking))) ++
    bFlags [s.changeSet.any (·.contains k)]

/-- QUERY_SLOT: it removes the slot from the change set (R173, R176). -/
def querySlot (n : Byte) : Service := fun s =>
  match slotOf n with
  | none => refuse s .outOfRange []
  | some k => accept { s with changeSet := s.changeSet.map (·.erase k) } (s.slotFields k)

def execQuerySlot (tag slot : Byte) : State → Outcome :=
  run (requestAfterTransfer ⟨tag, 0x43, [slot]⟩ (querySlot slot))

/-- A stranger's entry in QUERY_STRANGERS (R176). -/
def P60.strangerEntry (s : P60) (x : Stranger) : List Byte :=
  identBytes x.ident ++ [x.ident.maker, x.model, x.revision, x.cls] ++ b1 x.reason.code ++
    b4 (s.elapsed x.listed) ++ b1 x.peer.failures

/-- QUERY_STRANGERS (R176). -/
def queryStrangers (s : P60) : Answer := .ok (bList (s.strangers.map s.strangerEntry))

def execQueryStrangers (tag : Byte) : State → Outcome := run (query ⟨tag, 0x44, []⟩ queryStrangers)

/-- RELEASE_SLOT (R175). -/
def releaseSlot (n : Byte) : Service := fun s =>
  match slotOf n with
  | none => refuse s .outOfRange []
  | some k =>
    match (s.slot k).status with
    | .lost | .conflict | .idle => accept (s.releaseSlotNow k) []
    | _ => refuse s .badState []

def execReleaseSlot (tag slot : Byte) : State → Outcome :=
  run (request ⟨tag, 0x45, [slot]⟩ (releaseSlot slot))

/-- CLEAR_SLOT_FAULT (R169). -/
def clearSlotFault (n : Byte) : Service := fun s =>
  match slotOf n with
  | none => refuse s .outOfRange []
  | some k =>
    if (s.slot k).status = .empty then refuse s .badState []
    else if (s.slot k).fault = none then accept s []
    else if (s.slot k).fault = some .loadMismatch ∧ ¬ s.loadAgrees k then refuse s .badState []
    else accept (s.updSlot k (fun x => { x with fault := none })).trigger []

def execClearSlotFault (tag slot : Byte) : State → Outcome :=
  run (request ⟨tag, 0x46, [slot]⟩ (clearSlotFault slot))

end Sys2Proof.Machine
end

