-- ==== Sys2Proof/Machine/HoldCommands.lean ====
section
/-! DEFINITION. The hold unit's commands: its input lines, its timers' ends and its requests (chapter 10). -/

namespace Sys2Proof.Machine

/-! ## Input lines -/

/-- The wind-hold input is asserted (R178, R179). -/
def execWindHoldAsserted : State → Outcome :=
  run (fun s =>
    if s.windInput then s.quiet
    else command (fun s => ({ s with windInput := true } : P60).rejudgeHolds) s)

/-- The wind-hold input is deasserted: holds end, withheld commands are sent, a scan is triggered (R144,
R178, R180; log 7). -/
def execWindHoldDeasserted : State → Outcome :=
  run (fun s =>
    if s.windInput then
      command (fun s => ({ s with windInput := false } : P60).rejudgeHolds.sendAllDue.trigger) s
    else s.quiet)

/-- The emergency-stop input is asserted (R186). -/
def execEmergencyStopAsserted : State → Outcome :=
  run (command (fun s => ({ s with estopInput := true } : P60).enterEstop))

/-- The emergency-stop input is deasserted: it changes nothing but the line (R186). -/
def execEmergencyStopDeasserted : State → Outcome :=
  run (fun s => { s.quiet with estopInput := false })

/-- A feeder's overcurrent input is asserted (R182, R183). -/
def execFeederOvercurrentAsserted (feeder : FeederId) : State → Outcome :=
  run (fun s => if (s.feeder feeder).input then s.quiet else command (·.overcurrent feeder) s)

/-- A feeder's overcurrent input is deasserted (R182). -/
def execFeederOvercurrentDeasserted (feeder : FeederId) : State → Outcome :=
  run (fun s => if (s.feeder feeder).input then command (·.overcurrentGone feeder) s else s.quiet)

/-! ## Timers -/

def P60.restoreLeft? (s : P60) (f : FeederId) : Option Nat :=
  match (s.feeder f).state with
  | .restoring n | .starting n => some n
  | _ => none

def execRestoreTimerExpiry (feeder : FeederId) : State → Outcome :=
  run (fun s => expiry (s.restoreLeft? feeder) (·.restoreExpires feeder) s)

def P60.silenceLeft? (s : P60) : Option Nat :=
  if s.silence.state = .armed then some s.silence.remaining else none

def execSilenceExpiry : State → Outcome := run (fun s => expiry s.silenceLeft? P60.silenceExpires s)

/-! ## Requests -/

/-- KEEPALIVE (R189). -/
def keepalive : Service := fun s =>
  let t := { s.silence with lastKeepalive := some s.clock }
  let s' := match t.state with
    | .unarmed => { s with silence := t }
    | .armed => { s with silence := t.restarted }
    | .expired => { s with silence := t.restarted }.trigger
  accept s' (b1 s'.silence.state.code ++ b4 s'.silence.applied)

def execKeepalive (tag : Byte) : State → Outcome := run (request ⟨tag, 0x04, []⟩ keepalive)

/-- The period ARM_SILENCE applies (R188). -/
def silencePeriod (p : Word) : Nat := roundUp10 (clampTo 1000 60000 p.toNat)

/-- ARM_SILENCE (R188). -/
def armSilence (p : Word) : Service := fun s =>
  let n := silencePeriod p
  let t := match s.silence.state with
    | .unarmed => { s.silence with state := .armed, applied := n, remaining := n }
    | _ => { s.silence with pending := some n }
  accept { s with silence := t } (b4 n ++ b1 t.state.code)

def execArmSilence (tag : Byte) (period : Word) : State → Outcome :=
  run (request ⟨tag, 0x05, b4 period.toNat⟩ (armSilence period))

/-- SET_HOLD_POLICY (R181, log 6). -/
def setHoldPolicy (laden unladen : Byte) : Service := fun s =>
  match policyOf laden, policyOf unladen with
  | some a, some b =>
    let s := ({ s with ladenPolicy := a, unladenPolicy := b } : P60).rejudgeHolds
    ({ s with writes := s.writes ++ [.policies a b] }, none)
  | _, _ => refuse s .outOfRange []

def execSetHoldPolicy (tag laden unladen : Byte) : State → Outcome :=
  run (request ⟨tag, 0x48, [laden, unladen]⟩ (setHoldPolicy laden unladen))

/-- RESET_FEEDER (R185). -/
def resetFeeder (n : Byte) : Service := fun s =>
  match feederOf n with
  | none => refuse s .outOfRange []
  | some f =>
    if (s.feeder f).state ≠ .lockout ∨ (s.feeder f).input then refuse s .badState []
    else accept ((s.updFeeder f (fun x => { x with firstTrip := 0, trips := 0 })).enableFeeder f) []

def execResetFeeder (tag feeder : Byte) : State → Outcome :=
  run (request ⟨tag, 0x49, [feeder]⟩ (resetFeeder feeder))

/-- RESET_STOP (R187). -/
def resetStop : Service := fun s =>
  if s.estopInput ∨ ¬ s.estop then refuse s .badState [] else accept s.leaveEstop.trigger []

def execResetStop (tag : Byte) : State → Outcome := run (request ⟨tag, 0x4A, []⟩ resetStop)

/-- A slot's entry in QUERY_HOLDS; its two flags stand apart, each a flag byte (R190, log 15), and the
feeders holding the slot are listed by ascending number, for which R190 gives no order (log 26). -/
def P60.holdEntry (s : P60) (k : SlotId) : List Byte :=
  bFlags [(s.slot k).windHold.isSome] ++
    bList ((allFeeders.filter (fun f => (s.feeder f).held.contains k)).map (fun f => b1 (feederNo f))) ++
    bFlags [s.pausedAtOnce k]

/-- A feeder's entry in QUERY_HOLDS, its held set in the order in which the slots joined (R190, log 58). -/
def P60.feederEntry (s : P60) (f : FeederId) : List Byte :=
  let x := s.feeder f
  b1 x.state.code ++ b1 (levelCode x.input) ++ b1 (levelCode (s.outputOn f)) ++ b1 x.trips ++
    b4 (if x.trips = 0 then 0 else s.elapsed x.firstTrip) ++ b4 x.state.left ++
    bList (x.held.map (fun k => b1 (slotNo k)))

/-- QUERY_HOLDS (R190). -/
def queryHolds (s : P60) : Answer :=
  .ok
    (b1 (levelCode s.windInput) ++ b1 s.ladenPolicy.code ++ b1 s.unladenPolicy.code ++
      allSlots.flatMap s.holdEntry ++ allFeeders.flatMap s.feederEntry ++ b1 (levelCode s.estopInput) ++
      b1 (levelCode (!s.estop)) ++ b1 s.silence.state.code ++ b4 s.silence.applied ++
      b4 (s.silence.pending.getD 0) ++ b4 s.silence.remaining ++ b4 (s.sinceOr0 s.silence.lastKeepalive))

def execQueryHolds (tag : Byte) : State → Outcome := run (query ⟨tag, 0x4B, []⟩ queryHolds)

end Sys2Proof.Machine
end

