-- ==== Sys2Proof/Machine/Positions.lean ====
section
/-! DEFINITION. POSITION reports: standstill and its outcome (R123, R124), and what every block does with a
report (R163). -/

namespace Sys2Proof.Machine

/-! ## Standstill -/

/-- An arrival at the pad: DOCK_ARRIVE, or DONE for a RUN (R123). -/
def P60.atPad (s : P60) (k : SlotId) (o : Order) : P60 :=
  match o.kind with
  | .run => s.finishOrder o .done
  | _ => s.arrive k o

/-- A standing report short of the window: one re-issue for each standstill (R123). -/
def P60.creep (s : P60) (k : SlotId) : P60 :=
  if (s.slot k).motion.resent then s
  else (s.reissue k).updMotion k (fun m => { m with resent := true })

/-- A standing report of an order ACTIVE in RUNNING (R123). -/
def P60.judgeRunning (s : P60) (k : SlotId) (o : Order) (rep : PositionReport) : P60 :=
  if s.basis k rep = .offRoute then s.finishOrder o (.failed .stopOverrun)
  else
    match (s.slot k).authority.state.eoa? with
    | none => s.setStage k .waiting none
    | some e =>
      let d := s.signedDistance o rep.front e
      match e.kind with
      | .sectionEnd =>
        if d < 0 then s.finishOrder o (.failed .stopOverrun)
        else if d ≤ s.margin then s.setStage k .waiting none
        else s
      | .padStop =>
        if d < -50 then s.finishOrder o (.failed .stopOverrun)
        else if d ≤ 50 then s.atPad k o
        else s.creep k

/-- The transporter stands past its end of authority (R124 step 1). -/
def P60.overran (s : P60) (k : SlotId) (o : Order) (rep : PositionReport) : Bool :=
  s.basis k rep == .offRoute ||
    (match (s.slot k).authority.state.eoa? with
      | none => false
      | some e =>
        let d := s.signedDistance o rep.front e
        s.basis k rep == .curve &&
          (match e.kind with
            | .sectionEnd => decide (d < 0)
            | .padStop => decide (d < -50)))

/-- A standing report of an order ACTIVE in STOPPING: the first of R124's five steps that applies. -/
def P60.judgeStopping (s : P60) (k : SlotId) (o : Order) (stop : Option Cause) (rep : PositionReport) : P60 :=
  if s.overran k o rep then s.finishOrder o (.failed .stopOverrun)
  else if o.interventions = 3 then s.finishOrder o (.failed .overspeed)
  else
    match stop with
    | some c => s.suspendNow k o .stopping c
    | none =>
      if (s.slot k).held then s.setStage k .held none
      else
        let s := s.moveOn k
        match s.activeOrder? k with
        | some (o, .running, _) => s.judgeRunning k o rep
        | _ => s

/-- The judgement of a standing report (R122). -/
def P60.judgeStandstill (s : P60) (k : SlotId) (rep : PositionReport) : P60 :=
  match s.activeOrder? k with
  | some (o, .running, _) => s.judgeRunning k o rep
  | some (o, .stopping, stop) => s.judgeStopping k o stop rep
  | _ => s

/-! ## The report -/

/-- A standing report (R122). -/
def PositionReport.standing (rep : PositionReport) : Bool :=
  rep.standstill && clampSpeed rep.speed.toNat == 0

/-- What a report says is in force from now on (R122, R170). -/
def P60.noteReport (s : P60) (k : SlotId) (rep : PositionReport) (still : Bool) : P60 :=
  s.updSlot k (fun x =>
    { x with
      front := rep.front
      rear := rep.rear
      speed := rep.speed.toNat
      motion := { x.motion with
        standing := still
        resent := x.motion.resent && still
        lastReport := some s.clock } })

/-- The report shows a docking transporter outside its window (R150): by the last evaluation where the
record holds an end of authority (log 29). -/
def P60.leftWindow (s : P60) (k : SlotId) (rep : PositionReport) : Bool :=
  match s.activeOrder? k, (s.slot k).authority.state.eoa? with
  | some (o, g, _), some e =>
    g.isDocking && (s.basis k rep != .curve || !inWindow (s.signedDistance o rep.front e))
  | _, _ => false

/-- The braking supervisor's part, with the displacement it may show (R106, R112, R114, R150). -/
def P60.supervise (s : P60) (k : SlotId) (rep : PositionReport) : P60 :=
  let left := s.leftWindow k rep
  let s := s.evaluate k rep
  if left then s.displaced k else s

/-- The movement supervisor's part of a standing report. -/
def P60.judgeIf (s : P60) (k : SlotId) (rep : PositionReport) (still : Bool) : P60 :=
  if still then s.judgeStandstill k rep else s

/-- The evaluation, the judgement and, for an order in RUNNING, the pass, which falls where the free value
says (R88, R106, R123; log 7). -/
def P60.superviseAndPass (s : P60) (k : SlotId) (rep : PositionReport) (still : Bool) : P60 :=
  if s.activeStage? k = some .running ∧ s.mayPass k then
    let place := Config.passPlace s.draws
    let s := { s with draws := s.draws + 1 }
    if place = 0 then ((s.passEvent k).supervise k rep).judgeIf k rep still
    else if place = 1 then ((s.supervise k rep).passEvent k).judgeIf k rep still
    else ((s.supervise k rep).judgeIf k rep still).passEvent k
  else (s.supervise k rep).judgeIf k rep still

/-- What a standing report owes: the release ahead held pending (R134), the return to IDLE (R136), and the
retry of adoption (R168). -/
def P60.payStandstill (s : P60) (k : SlotId) : P60 :=
  let s := if (s.slot k).motion.releaseAhead then s.releaseAheadNow k else s
  let s := if (s.slot k).motion.returnDue then s.payReturn k else s
  s.retryAdoption k

/-- A POSITION report of a bound slot, handed to every block (R163, log 7). -/
def P60.positionReport (s : P60) (k : SlotId) (rep : PositionReport) : P60 :=
  let still := PositionReport.standing rep
  let before := s.overlapSections k
  let s := s.noteReport k rep still
  let s := (s.tablePosition k).joinByOverlap k before
  let s := s.superviseAndPass k rep still
  if still then s.payStandstill k else s

end Sys2Proof.Machine
end

