-- ==== Sys2Proof/Machine/FieldLink.lean ====
section
/-! DEFINITION. The field link port: exchanges, the arbiter, polls and the status sweep, silence
(section 11.5). -/

namespace Sys2Proof.Machine

/-- The wait for a reply on the field link (R200). -/
def fieldWait : Nat := 100

/-- The interval between polls of a unit (R201). -/
def pollPeriod : Nat := 1000

/-! ## Beginning an exchange -/

/-- The first unswept unit of a running sweep (R201). -/
def P60.unswept? (s : P60) : Option FieldUnit :=
  if s.sweep = .running then s.units.find? (fun u => !u.swept) else none

/-- The unit whose regular poll has been due longest; of equals, the lowest address (R200). -/
def P60.longestDue? (s : P60) : Option FieldUnit :=
  s.units.foldl (fun best u =>
    match u.dueSince, best with
    | none, _ => best
    | some _, none => some u
    | some t, some b => if s.sinceOr0 b.dueSince < s.elapsed t then some u else best) none

/-- A pad command's first transmission, noted in the docking record that awaits its report (R143). -/
def P60.noteTransmitted (s : P60) (n : Nat) (a : Awaiting) : P60 :=
  allSlots.foldl (fun s k => s.updDocking k (fun d =>
    if d.pad = n ∧ d.awaiting = a then { d with transmitted := true } else d)) s

/-- What an exchange's first sending does beside the frame (R143, R201). -/
def P60.firstSending (s : P60) (a : Nat) (m : FieldMsg) : P60 :=
  match m, s.unit? a with
  | .poll, _ => s.updUnit a (fun u => { u with lastPoll := some s.clock, dueSince := none })
  | .padUnlock, some u => s.noteTransmitted u.num .unlocked
  | .padLock, some u => s.noteTransmitted u.num .locked
  | _, _ => s

/-- An exchange begins, with a fresh tag (R200). -/
def P60.beginExchange (s : P60) (a : Nat) (m : FieldMsg) (sweep : Bool) : P60 :=
  let tag := nextTag s.fieldTag
  ({ s with fieldTag := tag, exchange := some ⟨a, m, tag, fieldWait, sweep⟩ }.send
    (fieldFrame a tag m)).firstSending a m

/-- The exchange the arbiter begins, with the state it leaves: the command queue, the sweep, the longest
due poll (R200); none while the line is held or nothing waits. -/
def P60.nextExchange? (s : P60) : Option P60 :=
  match s.exchange, s.commands with
  | some _, _ => none
  | none, (a, m) :: rest => some ({ s with commands := rest }.beginExchange a m false)
  | none, [] =>
    match s.unswept?, s.longestDue? with
    | some u, _ => some (s.beginExchange u.address .poll true)
    | none, some u => some (s.beginExchange u.address .poll false)
    | none, none => none

def execFieldExchangeBegin : State → Outcome :=
  run (fun s =>
    match s.quiet.nextExchange? with
    | none => s.quiet
    | some s' => s')

/-- The unit at an address has had its sweep poll's first sending: it is swept, or that exchange is in flight
(R201). -/
def P60.sweepSent (s : P60) (u : FieldUnit) : Bool :=
  u.swept || s.exchange.any (fun e => e.sweep && e.address == u.address)

/-- Milliseconds until a unit's regular poll falls due, while it is not due already: counted from the last first
sending of a poll, its sweep poll's at the earliest (R201). -/
def P60.pollLeft? (s : P60) (a : Nat) : Option Nat :=
  (s.unit? a).bind (fun u =>
    match u.lastPoll, u.dueSince with
    | some t, none => if s.sweepSent u then some (pollPeriod - s.elapsed t) else none
    | _, _ => none)

/-- A unit's regular poll falls due (R201). -/
def execFieldPollDue (address : Byte) : State → Outcome :=
  run (fun s =>
    expiry (s.pollLeft? address.toNat)
      (fun s => s.updUnit address.toNat (fun u => { u with dueSince := some s.clock })) s)

/-! ## Ending an exchange -/

/-- The sweep is DONE when every unit is swept (R201). -/
def P60.sweepCheck (s : P60) : P60 :=
  if s.sweep = .running ∧ s.units.all (·.swept) then { s with sweep := .done } else s

/-- The exchange ends; a sweep poll's unit is swept (R200, R201). -/
def P60.endExchange (s : P60) (e : Exchange) : P60 :=
  let s := { s with exchange := none }
  if e.sweep then (s.updUnit e.address (fun u => { u with swept := true })).sweepCheck else s

/-- The unit's owner is told that it is silent (R202). -/
def P60.tellSilent (s : P60) (u : FieldUnit) : P60 :=
  match u.kind with
  | .detector => s.detectorSilent u.num
  | .turnout => s.turnoutSilent u.num
  | .pad => s.clampSilent u.num

/-- The same message is sent again at once with the same tag (R200). -/
def P60.resendField (s : P60) (e : Exchange) : P60 :=
  { s with exchange := some { e with wait := fieldWait } }.send (fieldFrame e.address e.tag e.msg)

/-- 100 ms have passed with no reply (R200, R202). -/
def P60.fieldTimeout (s : P60) : P60 :=
  match s.exchange with
  | none => s
  | some e =>
    match s.unit? e.address with
    | none => s.endExchange e
    | some u =>
      if u.silent then s.endExchange e
      else
        let s := s.updUnit e.address (fun u => { u with failures := u.failures + 1 })
        if u.failures + 1 < 3 then s.resendField e else (s.endExchange e).tellSilent u

def execFieldReplyTimeout : State → Outcome :=
  run (fun s => expiry (s.exchange.map (·.wait)) P60.fieldTimeout s)

/-- The unit that a frame answers: the exchange's address and tag, and the kind of report that unit gives
(R200). -/
def P60.answering? (s : P60) (address tag : Byte) (kind : UnitKind) : Option (Exchange × FieldUnit) :=
  match s.exchange with
  | none => none
  | some e =>
    if e.address = address.toNat ∧ e.tag = tag then
      (s.unit? e.address).bind (fun u => if u.kind = kind then some (e, u) else none)
    else none

/-- A report: the failure count is 0, the exchange ends, and the report goes to its owner; a frame that is
no reply changes nothing (R200, R202). -/
def fieldReply (address tag : Byte) (kind : UnitKind) (owner : Nat → P60 → P60) (s : P60) : P60 :=
  match s.answering? address tag kind with
  | none => s.quiet
  | some (e, u) =>
    command (fun s =>
      owner u.num
        ((s.updUnit e.address (fun u => { u with failures := 0, lastReply := some s.clock })).endExchange e)) s

def execDetectorReport (address tag : Byte) (value : DetectorValue) : State → Outcome :=
  run (fieldReply address tag .detector (fun n s => s.detectorReport n value))

def execTurnoutReport (address tag : Byte) (value : TurnoutValue) : State → Outcome :=
  run (fieldReply address tag .turnout (fun n s => s.turnoutReport n value))

def execClampReport (address tag : Byte) (value : ClampValue) : State → Outcome :=
  run (fieldReply address tag .pad (fun n s => s.clampReport n value))

/-- A field-link frame that is not a reply is discarded (R192, R200). -/
def execFieldFrameNotAReply (_ _ _ : Byte) (_ : List Byte) : State → Outcome := run P60.quiet

/-! ## QUERY_FIELD -/

/-- The fields of a unit in QUERY_FIELD, 0 for an address the plan does not use (R203). -/
def P60.unitFields (s : P60) (a : Nat) : List Byte :=
  match s.unit? a with
  | none => b1 0 ++ b1 0 ++ b1 0 ++ bFlags [false] ++ b4 0 ++ b4 0 ++ b1 0
  | some u =>
    b1 u.kind.code ++ b1 u.num ++ b1 u.failures ++ bFlags [u.silent] ++ b4 (s.sinceOr0 u.lastReply) ++
      b4 ((s.pollLeft? a).getD 0) ++
      b1 (((s.commands.find? (fun e => e.1 == a)).map (fun e => e.2.code)).getD 0)

/-- The common fields of QUERY_FIELD (R203). -/
def P60.fieldFields (s : P60) : List Byte :=
  b1 s.sweep.code ++ b1 s.units.length ++ b1 (s.units.filter (·.swept)).length ++
    b1 (s.units.filter FieldUnit.silent).length ++ b1 s.commands.length

/-- QUERY_FIELD (R203). -/
def queryField (a : Byte) (s : P60) : Answer :=
  if 247 < a.toNat then .refuse .outOfRange
  else .ok (s.fieldFields ++ (if a = 0 then [] else s.unitFields a.toNat))

def execQueryField (tag address : Byte) : State → Outcome :=
  run (query ⟨tag, 0x06, [address]⟩ (queryField address))

end Sys2Proof.Machine
end

