-- ==== Sys2Proof/Machine/Transporters.lean ====
section
/-! DEFINITION. The transporter link's commands: messages that arrive, missing replies, deferrals, polls
and the repeats of ALL_STOP (chapter 9). -/

namespace Sys2Proof.Machine

/-! ## Messages -/

/-- An announcement; one with maker code 0 is discarded (R160, R165). -/
def execAnnounce (a : Announcement) : State → Outcome :=
  run (fun s => if a.ident.maker = 0 then s.quiet else command (·.judgeAnnounce a) s)

/-- Ends a slot's attempt by a reply (R162). -/
def P60.slotReplied (s : P60) (k : SlotId) : P60 :=
  s.updSlot k (fun x => { x with peer := x.peer.map (·.replied s.clock) })

/-- Ends a stranger's attempt by a reply (R162). -/
def P60.strangerReplied (s : P60) (i : Identity) : P60 :=
  s.updStranger i (fun x => { x with peer := x.peer.replied s.clock })

/-- The slot whose attempt in flight a message answers: not a LOST one (R162, R164). -/
def P60.answeringSlot? (s : P60) (i : Identity) (tag : Byte) : Option SlotId :=
  (s.slotOf? i).bind (fun k =>
    if (s.slot k).status ≠ .lost ∧ (s.slot k).peer.any (·.answers tag) then some k else none)

/-- The listed stranger whose attempt in flight a message answers (R162). -/
def P60.answeringStranger? (s : P60) (i : Identity) (tag : Byte) : Option Stranger :=
  (s.stranger? i).bind (fun x => if x.peer.answers tag then some x else none)

/-- A reply other than BUSY: the attempt ends and the reply is handed on; anything else is discarded
(R162, R163). -/
def peerReply (i : Identity) (tag : Byte) (onSlot : SlotId → P60 → P60) (onStranger : P60 → P60)
    (s : P60) : P60 :=
  match s.answeringSlot? i tag, s.answeringStranger? i tag with
  | some k, _ => command (fun s => onSlot k (s.slotReplied k)) s
  | none, some _ => command (fun s => onStranger (s.strangerReplied i)) s
  | none, none => s.quiet

def execPosition (ident : Identity) (tag : Byte) (report : PositionReport) : State → Outcome :=
  run (peerReply ident tag (fun k s => s.positionReport k report) id)

def execAck (ident : Identity) (tag : Byte) : State → Outcome :=
  run (peerReply ident tag (fun _ s => s) id)

/-- BUSY (R162). -/
def busyReply (i : Identity) (tag : Byte) (s : P60) : P60 :=
  match s.answeringSlot? i tag, s.answeringStranger? i tag with
  | some k, _ =>
    command (fun s => s.updSlot k (fun x => { x with peer := x.peer.map (·.busied s.clock) })) s
  | none, some _ => command (fun s => s.updStranger i (fun x => { x with peer := x.peer.busied s.clock })) s
  | none, none => s.quiet

def execBusy (ident : Identity) (tag : Byte) : State → Outcome := run (busyReply ident tag)

def execLifted (ident : Identity) (tag : Byte) : State → Outcome :=
  run (peerReply ident tag (fun k s => s.liftedReport k) id)

def execLowered (ident : Identity) (tag : Byte) : State → Outcome :=
  run (peerReply ident tag (fun k s => s.loweredReport k) id)

/-- DEPART from a slot by R172, from a stranger by R171. -/
def execDepart (ident : Identity) (tag : Byte) : State → Outcome :=
  run (peerReply ident tag (fun k s => s.departs k) (fun s => s.dropStranger ident))

def execFault (ident : Identity) (tag code : Byte) : State → Outcome :=
  run (peerReply ident tag (fun k s => s.faultReport k code) id)

/-- A message that is no reply, or comes from an identity neither bound nor listed, is discarded
(R162, R164, R192). -/
def execStrayTransporterMessage (_ : Identity) (_ _ : Byte) (_ : List Byte) : State → Outcome :=
  run P60.quiet

/-! ## Missing replies -/

/-- The peer record of an identity bound or listed. -/
def P60.peerOf? (s : P60) (i : Identity) : Option Peer :=
  match s.slotOf? i with
  | some k => (s.slot k).peer
  | none => (s.stranger? i).map (·.peer)

/-- Replaces the peer record of an identity bound or listed. -/
def P60.setPeer (s : P60) (i : Identity) (p : Peer) : P60 :=
  match s.slotOf? i with
  | some k => s.updSlot k (fun x => { x with peer := some p })
  | none => s.updStranger i (fun x => { x with peer := p })

/-- A third failure: a slot goes LOST, a stranger is dropped (R162). -/
def P60.peerGone (s : P60) (i : Identity) : P60 :=
  match s.slotOf? i with
  | some k => s.loseSlot k
  | none => s.dropStranger i

/-- A message sent again to a slot may be the present stage's LIFT or LOWER (R143, R162). -/
def P60.noteResent (s : P60) (i : Identity) (m : PeerMsg) : P60 :=
  match s.slotOf? i with
  | some k => s.updDocking k (·.noteSent m)
  | none => s

/-- 200 ms have passed with no reply (R162). -/
def P60.peerTimeout (i : Identity) (s : P60) : P60 :=
  match s.peerOf? i with
  | none => s
  | some p =>
    match p.attempt with
    | none => s
    | some a =>
      let q := { p with attempt := none, failures := p.failures + 1 }
      if 3 ≤ q.failures then s.peerGone i
      else
        match q.resend i s.clock a.place with
        | none => s.setPeer i q
        | some (f, m, q) => ((s.send f).setPeer i q).noteResent i m

def P60.attemptLeft? (s : P60) (i : Identity) : Option Nat :=
  ((s.peerOf? i).bind (·.attempt)).map (·.wait)

def execTransporterReplyTimeout (ident : Identity) : State → Outcome :=
  run (fun s => expiry (s.attemptLeft? ident) (P60.peerTimeout ident) s)

/-! ## Deferrals and polls -/

def P60.deferralLeft? (s : P60) (i : Identity) (place : PlaceName) : Option Nat :=
  ((s.peerOf? i).bind (·.get place)).bind (·.deferred)

/-- A message's deferral ends (R162). -/
def P60.deferralEnds (i : Identity) (place : PlaceName) (s : P60) : P60 :=
  match s.peerOf? i with
  | none => s
  | some p => s.setPeer i (p.deferralEnds place)

def execBusyDeferralEnd (ident : Identity) (place : PlaceName) : State → Outcome :=
  run (fun s => expiry (s.deferralLeft? ident place) (P60.deferralEnds ident place) s)

/-- The poll interval in force for an identity (R163). -/
def P60.intervalOf (s : P60) (i : Identity) : Nat :=
  match s.slotOf? i with
  | some k => s.pollInterval k
  | none => strangerInterval

/-- Milliseconds until a peer's POLL is due; none for a LOST slot, before its first POLL, or while one is
due already (R163). -/
def P60.peerPollLeft? (s : P60) (i : Identity) : Option Nat :=
  (s.peerOf? i).bind (fun p =>
    match p.lastPoll, p.poll with
    | some t, none =>
      if (s.slotOf? i).any (fun k => (s.slot k).status == .lost) then none
      else some (s.intervalOf i - s.elapsed t)
    | _, _ => none)

/-- A POLL becomes due (R163). -/
def P60.peerPollDue (i : Identity) (s : P60) : P60 :=
  match s.peerOf? i with
  | none => s
  | some p => s.setPeer i p.pollDue

def execTransporterPollDue (ident : Identity) : State → Outcome :=
  run (fun s => expiry (s.peerPollLeft? ident) (P60.peerPollDue ident) s)

/-! ## ALL_STOP -/

/-- The next sending of ALL_STOP (R159). -/
def P60.repeatAllStop (s : P60) : P60 :=
  match s.allStop with
  | none => s
  | some a =>
    { s.send allStopFrame with allStop := if a.left ≤ 1 then none else some ⟨a.left - 1, allStopInterval⟩ }

def execAllStopRepeat : State → Outcome :=
  run (fun s => expiry (s.allStop.map (·.timer)) P60.repeatAllStop s)

end Sys2Proof.Machine
end

