-- ==== Sys2Proof/Machine/Power.lean ====
section
/-! DEFINITION. Reset (R15, R43, R59, R81, R158, R177, R191, R204), RESTART (R199), IDENTIFY (R198), the
attention set's requests and records (R196, R197), and requests that arrive or are malformed (R193, R194). -/

namespace Sys2Proof.Machine

/-! ## Reset -/

/-- The plan comes up ACTIVE if one is retained and its CRC agrees; if it disagrees, the plan and the
inhibits are erased (R15, R43). -/
def P60.comeUp (s : P60) : P60 :=
  match s.nvm.plan with
  | none => s
  | some p =>
    if crc32 p.records.flatten = p.crc then (s.activate (planOf p.id p.crc p.records)).reloadInhibits
    else { s with nvm := { s.nvm with plan := none, inhibits := [] } }

/-- The emergency-stop input, sampled at reset (R191). -/
def P60.sampleEstop (s : P60) : P60 :=
  if s.estopInput then { s with estop := true }.allStopRequest else s

/-- The machine after reset: what storage holds and what the input lines show; all else at its reset value
(00_scope.md, Resets). -/
def P60.reset (s : P60) : P60 :=
  let s : P60 :=
    { P60.initial with
      draws := s.draws
      nvm := s.nvm
      windInput := s.windInput
      estopInput := s.estopInput
      ladenPolicy := s.nvm.ladenPolicy
      unladenPolicy := s.nvm.unladenPolicy
      feeders := s.feeders.map (fun x => Feeder.initial x.input) }
  s.comeUp.sampleEstop.syncAttention

def execPowerOn : State → Outcome := run P60.reset

/-- The reset that ends a RESTART, after the third sending of its ALL_STOP (R199). -/
def P60.restartReset (s : P60) : P60 :=
  if s.restart = some .stopping ∧ s.allStop = none then s.reset else s.quiet

def execRestartReset : State → Outcome := run P60.restartReset

/-! ## Records formed and not yet transmitted -/

/-- The reply that RESTART awaits the transmission of (R199). -/
def TxRecord.isRestart : TxRecord → Bool
  | .reply r => r.kind == 0x83 && r.payload == [0]
  | .attention => false

/-- The frame of a record as its transmission begins (R194, R196). -/
def P60.txFrame (s : P60) : TxRecord → Frame
  | .reply r => ⟨.operations, r.tag, r.kind, r.payload⟩
  | .attention => ⟨.operations, 0, 0x7F, s.attentionBytes⟩

/-- Transmits the first n records formed (R194). -/
def P60.transmit (s : P60) (n : Nat) : P60 :=
  { s with
    out := s.out ++ (s.opsTx.take n).map s.txFrame
    opsTx := s.opsTx.drop n }

/-- How many records stand before the first that satisfies a test. -/
def countBefore {α : Type} (p : α → Bool) (l : List α) : Nat := (l.takeWhile (fun x => !p x)).length

/-- An ATTENTION record's transmission: the replies formed before it go first; a RESTART's reply is not
passed (R194, R196, log 23). -/
def P60.transmitAttention (s : P60) : P60 :=
  let n := countBefore (· == .attention) s.opsTx
  if (s.opsTx.take n).any TxRecord.isRestart ∨ s.opsTx.length ≤ n then s else s.transmit (n + 1)

def execAttentionRecord : State → Outcome := run (fun s => s.quiet.transmitAttention)

/-- Transmits the replies at the front, up to an ATTENTION record or a RESTART's reply (log 23). -/
def P60.transmitReplies (s : P60) : P60 :=
  s.transmit (countBefore (fun r => r == .attention || r.isRestart) s.opsTx)

/-- The RESTART reply has been transmitted, everything formed before it first: ALL_STOP is requested
(R199). -/
def P60.restartReplied (s : P60) : P60 :=
  if s.restart = some .replying then
    { (s.transmit (countBefore TxRecord.isRestart s.opsTx + 1)).allStopRequest with restart := some .stopping }
  else s

def execRestartReplySent : State → Outcome := run (fun s => s.quiet.restartReplied)

/-! ## Requests of the port -/

/-- RESTART: the reply is formed, and the requests behind it are lost (R199). -/
def P60.serveRestart (s : P60) (r : Request) : P60 :=
  if r.malformed then s.answer r (.refuse .malformed)
  else { s.answer r (.ok []) with requests := [], restart := some .replying }

def execRestart (tag : Byte) : State → Outcome :=
  run (fun s => s.requestTurn ⟨tag, 0x03, []⟩ (!s.serving) (·.serveRestart ⟨tag, 0x03, []⟩))

/-- IDENTIFY (R198). -/
def identify (s : P60) : Answer :=
  .ok
    (b1 0x5A ++ b2 0x0060 ++ [Config.firmwareMajor, Config.firmwareMinor] ++
      b4 ((s.plan?.map (fun p => p.id.toNat)).getD 0))

/-- IDENTIFY waits as a query does while a transfer is written; that it does is the model's choice (R141, R198,
log 52). -/
def execIdentify (tag : Byte) : State → Outcome := run (query ⟨tag, 0x01, []⟩ identify)

/-- QUERY_ATTENTION: the set is returned, and every event kind leaves it (R197). -/
def queryAttention : Service := fun s =>
  accept { s with counts := ⟨0, 0, 0, 0, 0, 0, 0⟩ } s.attentionBytes

def execQueryAttention (tag : Byte) : State → Outcome :=
  run (requestAfterTransfer ⟨tag, 0x02, []⟩ queryAttention)

/-- A request that R194's step 1 refuses; one that it does not refuse is no malformed request (log 3). -/
def execMalformedRequest (tag kind : Byte) (payload : List Byte) : State → Outcome :=
  run (fun s =>
    if Request.malformed ⟨tag, kind, payload⟩ then
      request ⟨tag, kind, payload⟩ (fun s => refuse s .malformed []) s
    else s.quiet)

/-- A request arrives and joins the queue, or draws BUSY (R193). -/
def execRequestArrival (tag kind : Byte) (payload : List Byte) : State → Outcome :=
  run (fun s => if maxPayload < payload.length then s.quiet else s.arrival ⟨tag, kind, payload⟩)

end Sys2Proof.Machine
end

