-- ==== Sys2Proof/Machine/Receivers.lean ====
section
/-! DEFINITION. The receivers: hunting for frames in a damaged run of bytes (R192), and what a frame found
in one is handed on as. A frame command is a frame already found; only CORRUPT_FRAME and
INTER_BYTE_TIMEOUT leave bytes behind (log 25). -/

namespace Sys2Proof.Machine

/-- A frame found: its TAG, KIND and payload. -/
structure Found where
  tag : Byte
  kind : Byte
  payload : List Byte
  deriving DecidableEq, Repr

/-- The fields of LEN bytes from TAG on. -/
def foundOf : List Byte → Option Found
  | t :: k :: p => some ⟨t, k, p⟩
  | _ => none

/-- The CRC of LEN and LEN bytes agrees with the two bytes after them (R192). -/
def crcAgrees (n : Byte) (body : List Byte) : Bool :=
  match body.drop n.toNat with
  | h :: l :: _ => crc16 (n :: body.take n.toNat) == h ++ l
  | _ => false

/-- Hunts through a run of bytes: the frames that pass, and the bytes of an attempt not yet complete, unless a
gap after the last byte ends every such attempt (R192). Every turn takes at least one byte. -/
def hunt (gap : Bool) : Nat → List Byte → List Found × List Byte
  | 0, _ => ([], [])
  | _ + 1, [] => ([], [])
  | _ + 1, [b] => if b = 0xC5 ∧ ¬ gap then ([], [b]) else ([], [])
  | fuel + 1, b :: n :: body =>
    if b ≠ 0xC5 ∨ ¬ inRange 2 250 n.toNat then hunt gap fuel (n :: body)
    else if body.length < n.toNat + 2 then if gap then hunt gap fuel (n :: body) else ([], b :: n :: body)
    else if crcAgrees n body then
      let (fs, rest) := hunt gap fuel (body.drop (n.toNat + 2))
      ((foundOf (body.take n.toNat)).toList ++ fs, rest)
    else hunt gap fuel (n :: body)

/-! ## Frames of the transporter and field links -/

def identOf (m a b c d : Byte) : Identity := ⟨m, word a b c d⟩

/-- What a message from a transporter is handed on as; none for a frame of any other kind or length, for a
POSITION whose direction is neither of the two, and for a FAULT of code 0 (R160, R205, section 11.6, log 50). An
ANNOUNCE is judged whatever its tag (R160, R192, log 57). Of a load-present or standstill byte bit 0 alone is read
(R160, R205, log 60). -/
def readPeerMessage (tag kind : Byte) : List Byte → Option (P60 → P60)
  | m :: a :: b :: c :: d :: rest =>
    let i := identOf m a b c d
    match kind.toNat, rest with
    | 0x41, [mo, re, cl, l3, l2, l1, l0, s1, s0, d1, d0, u1, u0, e1, e0, load, fs, f3, f2, f1, f0,
        rs, r3, r2, r1, r0] =>
      let x : Announcement :=
        { ident := i, model := mo, revision := re, cls := cl, length := word l3 l2 l1 l0
          ladenSpeed := half s1 s0, ladenDecel := half d1 d0, unladenSpeed := half u1 u0
          unladenDecel := half e1 e0, loadPresent := load.getLsbD 0
          front := ⟨fs, word f3 f2 f1 f0⟩, rear := ⟨rs, word r3 r2 r1 r0⟩ }
      if m = 0 then none else some (command (·.judgeAnnounce x))
    | 0x42, [fs, f3, f2, f1, f0, rs, r3, r2, r1, r0, dir, v1, v0, still] =>
      let direction : Option Direction :=
        if dir = 1 then some .forward else if dir = 2 then some .backward else none
      direction.map (fun direction =>
        peerReply i tag (fun k s => s.positionReport k
          ⟨⟨fs, word f3 f2 f1 f0⟩, ⟨rs, word r3 r2 r1 r0⟩, direction, half v1 v0, still.getLsbD 0⟩) id)
    | 0x43, [] => some (peerReply i tag (fun _ s => s) id)
    | 0x44, [] => some (busyReply i tag)
    | 0x45, [] => some (peerReply i tag (fun k s => s.liftedReport k) id)
    | 0x46, [] => some (peerReply i tag (fun k s => s.loweredReport k) id)
    | 0x47, [] => some (peerReply i tag (fun k s => s.departs k) (fun s => s.dropStranger i))
    | 0x48, [code] => if code = 0 then none else some (peerReply i tag (fun k s => s.faultReport k code) id)
    | _, _ => none
  | _ => none

/-- What a report from a field unit is handed on as (R200, section 11.6). -/
def readFieldReport (tag kind : Byte) : List Byte → Option (P60 → P60)
  | [a, v] =>
    match kind.toNat, v.toNat with
    | 0x41, 0 => some (fieldReply a tag .detector (fun n s => s.detectorReport n .clear))
    | 0x41, 1 => some (fieldReply a tag .detector (fun n s => s.detectorReport n .occupied))
    | 0x42, 1 => some (fieldReply a tag .turnout (fun n s => s.turnoutReport n .normal))
    | 0x42, 2 => some (fieldReply a tag .turnout (fun n s => s.turnoutReport n .reverse))
    | 0x42, 3 => some (fieldReply a tag .turnout (fun n s => s.turnoutReport n .moving))
    | 0x42, 4 => some (fieldReply a tag .turnout (fun n s => s.turnoutReport n .noDetection))
    | 0x43, 1 => some (fieldReply a tag .pad (fun n s => s.clampReport n .locked))
    | 0x43, 2 => some (fieldReply a tag .pad (fun n s => s.clampReport n .unlocked))
    | 0x43, 3 => some (fieldReply a tag .pad (fun n s => s.clampReport n .fault))
    | _, _ => none
  | _ => none

/-- Hands a frame on to its link's port (R192, R193). -/
def handOn (link : Link) (f : Found) (s : P60) : P60 :=
  match link with
  | .operations => s.arrival ⟨f.tag, f.kind, f.payload⟩
  | .transporter => ((readPeerMessage f.tag f.kind f.payload).getD P60.quiet) s
  | .field => ((readFieldReport f.tag f.kind f.payload).getD P60.quiet) s

/-- Hands a frame on, keeping the frames already put on the links by this command. -/
def handOnAfter (link : Link) (s : P60) (f : Found) : P60 :=
  let t := handOn link f s
  { t with out := s.out ++ t.out }

/-! ## The receivers -/

def P60.rx (s : P60) : Link → List Byte
  | .operations => s.opsRx
  | .transporter => s.transporterRx
  | .field => s.fieldRx

def P60.setRx (s : P60) (l : List Byte) : Link → P60
  | .operations => { s with opsRx := l }
  | .transporter => { s with transporterRx := l }
  | .field => { s with fieldRx := l }

/-- A receiver goes on hunting through bytes: what it finds is handed on, what is not complete is kept
(R192). -/
def P60.receive (s : P60) (link : Link) (gap : Bool) (bytes : List Byte) : P60 :=
  let (found, rest) := hunt gap (bytes.length + 1) bytes
  found.foldl (handOnAfter link) (s.quiet.setRx rest link)

/-- A frame that fails its check: hunting resumes at the byte after its SYNC, so a C5h inside it can begin
the next frame (R192). -/
def execCorruptFrame (link : Link) (bytes : List Byte) : State → Outcome :=
  run (fun s => s.receive link false (s.rx link ++ bytes))

/-- More than 50 ms between two bytes end the attempt, hunting resumes after its SYNC, and an attempt that
begins in its bytes ends by the same gap (R192). -/
def execInterByteTimeout (link : Link) : State → Outcome :=
  run (fun s => s.receive link true ((s.rx link).drop 1))

end Sys2Proof.Machine
end

