-- ==== Sys2Proof/Machine/Idle.lean ====
section
/-! DEFINITION. The scan's end (R82), and what the P60 does when no command is pending: an event of its own
that is due happens, or 10 ms pass (log 2). -/

namespace Sys2Proof.Machine

/-- The end of a scan (R82). -/
def execScanEnd : State → Outcome :=
  run (fun s => if s.scanning then command P60.endScan s else s.quiet)

/-! ## Events that are due -/

/-- A remaining time has run out. -/
def ranOut (left : Option Nat) : Bool := left == some 0

/-- A numbered timer's expiry command, if the timer has run out. -/
def dueAt (left : Nat → Option Nat) (c : Byte → Instr) (n : Nat) : Option Instr :=
  if ranOut (left n) then some (c (BitVec.ofNat 8 n)) else none

/-- A section's timers (R26, R27, R29, R32). -/
def P60.sectionDue? (s : P60) (n : Nat) : Option Instr :=
  (dueAt s.holdLeft? .minimumHoldEnd n).or
    ((dueAt s.clearingLeft? .clearingTimerExpiry n).or
      ((dueAt s.provingLeft? .provingTimerExpiry n).or (dueAt s.confirmLeft? .entryConfirmationExpiry n)))

/-- A slot's timers (R131, R149). -/
def P60.slotDue? (s : P60) (k : SlotId) : Option Instr :=
  if ranOut (s.passageLeft? k) then some (.passageOverdue k)
  else if ranOut (s.stageLeft? k) then some (.stageTimerExpiry k)
  else none

/-- A feeder's restore timer (R182). -/
def P60.feederDue? (s : P60) (f : FeederId) : Option Instr :=
  if ranOut (s.restoreLeft? f) then some (.restoreTimerExpiry f) else none

/-- A peer's reply wait, deferrals and poll (R162, R163). -/
def P60.peerDue? (s : P60) (i : Identity) : Option Instr :=
  if ranOut (s.attemptLeft? i) then some (.transporterReplyTimeout i)
  else
    (([.bind, .motion, .docking, .standDown, .poll] : List PlaceName).findSome? (fun place =>
      if ranOut (s.deferralLeft? i place) then some (.busyDeferralEnd i place) else none)).or
      (if ranOut (s.peerPollLeft? i) then some (.transporterPollDue i) else none)

/-- The identities that have a peer record: slots by number, then strangers as listed. -/
def P60.peers (s : P60) : List Identity :=
  allSlots.filterMap (fun k => (s.slot k).ident) ++ s.strangers.map (·.ident)

/-- A query waits while a transfer is written, IDENTIFY and LIST_ORDERS among them, and so does a request judged by
the telescope location table (R141, log 52). -/
def Instr.waitsForTransfer : Instr → Bool
  | .identify _ | .queryAttention _ | .queryField _ _ | .queryPlan _ _ | .querySection _ _
  | .queryTurnout _ _ | .queryOrder _ _ | .listOrders _ _ | .queryWaits _ | .queryDeadlock _
  | .queryAuthority _ _ | .queryMotion _ _ | .queryPad _ _ | .queryTelescope _ _ | .queryAcceptance _
  | .queryRoster _ | .querySlot _ _ | .queryStrangers _ | .queryHolds _
  | .planCommit _ | .insertOrders _ _ _ | .placeTelescope _ _ _ => true
  | _ => false

/-- The request at the queue's head, if it may be served now (R193). -/
def P60.requestDue? (s : P60) : Option Instr :=
  match s.requests with
  | [] => none
  | r :: _ =>
    let c := readRequest r
    if s.serving || (s.transferring && Instr.waitsForTransfer c) then none else some c

/-- The transmission of the first record formed, where it is an ATTENTION record or RESTART's reply (R196,
R199); the replies before one go out as time passes (log 23). -/
def P60.recordDue? (s : P60) : Option Instr :=
  match s.opsTx.head? with
  | some .attention => some .attentionRecord
  | some r => if r.isRestart ∧ s.restart = some .replying then some .restartReplySent else none
  | none => none

/-- The end of ALL_STOP's interval, and the reset that follows the third sending (R159, R199). -/
def P60.stopDue? (s : P60) : Option Instr :=
  if ranOut (s.allStop.map (·.timer)) then some .allStopRepeat
  else if s.restart = some .stopping ∧ s.allStop = none then some .restartReset
  else none

/-- The next event of the P60's own that is due, in a fixed order (log 2). -/
def P60.due? (s : P60) : Option Instr :=
  s.stopDue?.or <|
    ((s.sections.map (·.num)).findSome? s.sectionDue?).or <|
    ((s.turnouts.map (·.num)).findSome? (dueAt s.throwLeft? .throwTimerExpiry)).or <|
    (allSlots.findSome? s.slotDue?).or <|
    (if ranOut s.silenceLeft? then some .silenceExpiry else none).or <|
    (allFeeders.findSome? s.feederDue?).or <|
    (if ranOut (s.exchange.map (·.wait)) then some .fieldReplyTimeout else none).or <|
    (s.peers.findSome? s.peerDue?).or <|
    ((s.units.map (·.address)).findSome? (dueAt s.pollLeft? .fieldPollDue)).or <|
    (if s.nextExchange?.isSome then some .fieldExchangeBegin else none).or <|
    (if s.scanning then some .scanEnd else none).or <|
    s.recordDue?.or s.requestDue?

/-- 10 ms pass with nothing due; replies at the front of the records formed go out (log 2, log 23). -/
def P60.tick (s : P60) : P60 := (s.quiet.advance tickLength).transmitReplies

end Sys2Proof.Machine
end

