-- ==== Sys2Proof/Machine/Dispatch.lean ====
section
/-! DEFINITION. What each command does: one arm per command, one direct call of its meaning. -/

namespace Sys2Proof.Machine

def exec (i : Instr) (s : State) : Host.Outcome State Fault Refusal :=
  match i with
  | .powerOn => Sys2Proof.Machine.execPowerOn s
  | .restartReset => Sys2Proof.Machine.execRestartReset s
  | .requestArrival tag kind payload => Sys2Proof.Machine.execRequestArrival tag kind payload s
  | .corruptFrame link bytes => Sys2Proof.Machine.execCorruptFrame link bytes s
  | .interByteTimeout link => Sys2Proof.Machine.execInterByteTimeout link s
  | .malformedRequest tag kind payload => Sys2Proof.Machine.execMalformedRequest tag kind payload s
  | .identify tag => Sys2Proof.Machine.execIdentify tag s
  | .queryAttention tag => Sys2Proof.Machine.execQueryAttention tag s
  | .restart tag => Sys2Proof.Machine.execRestart tag s
  | .restartReplySent => Sys2Proof.Machine.execRestartReplySent s
  | .keepalive tag => Sys2Proof.Machine.execKeepalive tag s
  | .armSilence tag period => Sys2Proof.Machine.execArmSilence tag period s
  | .queryField tag address => Sys2Proof.Machine.execQueryField tag address s
  | .planBegin tag count crc id => Sys2Proof.Machine.execPlanBegin tag count crc id s
  | .planRecord tag bytes => Sys2Proof.Machine.execPlanRecord tag bytes s
  | .planCommit tag => Sys2Proof.Machine.execPlanCommit tag s
  | .queryPlan tag selector => Sys2Proof.Machine.execQueryPlan tag selector s
  | .possessSection tag sec => Sys2Proof.Machine.execPossessSection tag sec s
  | .releaseSection tag sec => Sys2Proof.Machine.execReleaseSection tag sec s
  | .inhibitSections tag secs => Sys2Proof.Machine.execInhibitSections tag secs s
  | .permitSections tag secs => Sys2Proof.Machine.execPermitSections tag secs s
  | .resetSection tag sec => Sys2Proof.Machine.execResetSection tag sec s
  | .querySection tag sec => Sys2Proof.Machine.execQuerySection tag sec s
  | .throwTurnout tag turnout leg => Sys2Proof.Machine.execThrowTurnout tag turnout leg s
  | .resetTurnout tag turnout => Sys2Proof.Machine.execResetTurnout tag turnout s
  | .queryTurnout tag turnout => Sys2Proof.Machine.execQueryTurnout tag turnout s
  | .insertOrders tag pos batch => Sys2Proof.Machine.execInsertOrders tag pos batch s
  | .moveOrder tag id pos => Sys2Proof.Machine.execMoveOrder tag id pos s
  | .removeOrder tag id => Sys2Proof.Machine.execRemoveOrder tag id s
  | .collectFinished tag => Sys2Proof.Machine.execCollectFinished tag s
  | .cancelOrder tag id => Sys2Proof.Machine.execCancelOrder tag id s
  | .stopOrder tag id => Sys2Proof.Machine.execStopOrder tag id s
  | .resumeOrder tag id => Sys2Proof.Machine.execResumeOrder tag id s
  | .queryOrder tag id => Sys2Proof.Machine.execQueryOrder tag id s
  | .listOrders tag start => Sys2Proof.Machine.execListOrders tag start s
  | .queryWaits tag => Sys2Proof.Machine.execQueryWaits tag s
  | .queryDeadlock tag => Sys2Proof.Machine.execQueryDeadlock tag s
  | .queryAuthority tag slot => Sys2Proof.Machine.execQueryAuthority tag slot s
  | .queryMotion tag slot => Sys2Proof.Machine.execQueryMotion tag slot s
  | .lockPad tag pad => Sys2Proof.Machine.execLockPad tag pad s
  | .placeTelescope tag telescope target => Sys2Proof.Machine.execPlaceTelescope tag telescope target s
  | .queryPad tag pad => Sys2Proof.Machine.execQueryPad tag pad s
  | .queryTelescope tag telescope => Sys2Proof.Machine.execQueryTelescope tag telescope s
  | .setAcceptance tag entries => Sys2Proof.Machine.execSetAcceptance tag entries s
  | .queryAcceptance tag => Sys2Proof.Machine.execQueryAcceptance tag s
  | .queryRoster tag => Sys2Proof.Machine.execQueryRoster tag s
  | .querySlot tag slot => Sys2Proof.Machine.execQuerySlot tag slot s
  | .queryStrangers tag => Sys2Proof.Machine.execQueryStrangers tag s
  | .releaseSlot tag slot => Sys2Proof.Machine.execReleaseSlot tag slot s
  | .clearSlotFault tag slot => Sys2Proof.Machine.execClearSlotFault tag slot s
  | .setHoldPolicy tag laden unladen => Sys2Proof.Machine.execSetHoldPolicy tag laden unladen s
  | .resetFeeder tag feeder => Sys2Proof.Machine.execResetFeeder tag feeder s
  | .resetStop tag => Sys2Proof.Machine.execResetStop tag s
  | .queryHolds tag => Sys2Proof.Machine.execQueryHolds tag s
  | .nvmWriteComplete => Sys2Proof.Machine.execNvmWriteComplete s
  | .attentionRecord => Sys2Proof.Machine.execAttentionRecord s
  | .scanEnd => Sys2Proof.Machine.execScanEnd s
  | .detectorReport address tag value => Sys2Proof.Machine.execDetectorReport address tag value s
  | .turnoutReport address tag value => Sys2Proof.Machine.execTurnoutReport address tag value s
  | .clampReport address tag value => Sys2Proof.Machine.execClampReport address tag value s
  | .fieldReplyTimeout => Sys2Proof.Machine.execFieldReplyTimeout s
  | .fieldPollDue address => Sys2Proof.Machine.execFieldPollDue address s
  | .fieldExchangeBegin => Sys2Proof.Machine.execFieldExchangeBegin s
  | .announce a => Sys2Proof.Machine.execAnnounce a s
  | .position ident tag report => Sys2Proof.Machine.execPosition ident tag report s
  | .ack ident tag => Sys2Proof.Machine.execAck ident tag s
  | .busy ident tag => Sys2Proof.Machine.execBusy ident tag s
  | .lifted ident tag => Sys2Proof.Machine.execLifted ident tag s
  | .lowered ident tag => Sys2Proof.Machine.execLowered ident tag s
  | .depart ident tag => Sys2Proof.Machine.execDepart ident tag s
  | .fault ident tag code => Sys2Proof.Machine.execFault ident tag code s
  | .strayTransporterMessage ident tag kind body => Sys2Proof.Machine.execStrayTransporterMessage ident tag kind body s
  | .transporterReplyTimeout ident => Sys2Proof.Machine.execTransporterReplyTimeout ident s
  | .busyDeferralEnd ident place => Sys2Proof.Machine.execBusyDeferralEnd ident place s
  | .transporterPollDue ident => Sys2Proof.Machine.execTransporterPollDue ident s
  | .allStopRepeat => Sys2Proof.Machine.execAllStopRepeat s
  | .minimumHoldEnd sec => Sys2Proof.Machine.execMinimumHoldEnd sec s
  | .clearingTimerExpiry sec => Sys2Proof.Machine.execClearingTimerExpiry sec s
  | .provingTimerExpiry sec => Sys2Proof.Machine.execProvingTimerExpiry sec s
  | .entryConfirmationExpiry sec => Sys2Proof.Machine.execEntryConfirmationExpiry sec s
  | .throwTimerExpiry turnout => Sys2Proof.Machine.execThrowTimerExpiry turnout s
  | .passageOverdue slot => Sys2Proof.Machine.execPassageOverdue slot s
  | .stageTimerExpiry slot => Sys2Proof.Machine.execStageTimerExpiry slot s
  | .silenceExpiry => Sys2Proof.Machine.execSilenceExpiry s
  | .windHoldAsserted => Sys2Proof.Machine.execWindHoldAsserted s
  | .windHoldDeasserted => Sys2Proof.Machine.execWindHoldDeasserted s
  | .emergencyStopAsserted => Sys2Proof.Machine.execEmergencyStopAsserted s
  | .emergencyStopDeasserted => Sys2Proof.Machine.execEmergencyStopDeasserted s
  | .feederOvercurrentAsserted feeder => Sys2Proof.Machine.execFeederOvercurrentAsserted feeder s
  | .feederOvercurrentDeasserted feeder => Sys2Proof.Machine.execFeederOvercurrentDeasserted feeder s
  | .restoreTimerExpiry feeder => Sys2Proof.Machine.execRestoreTimerExpiry feeder s
  | .fieldFrameNotAReply address tag kind body => Sys2Proof.Machine.execFieldFrameNotAReply address tag kind body s

end Sys2Proof.Machine
end

