-- ==== Sys2Proof/WellFormed.lean ====
section
/-! DEFINITION. Which commands the outside can send: the checks on a command as syntax. A command that
fails one has no frame, line or timer it could come from, or is another command's spelling. -/

namespace Sys2Proof

/-- The most bytes a payload holds (R192). -/
def payloadRoom : Nat := 248

/-- `other` stands for a form that is none of the three (R64, R205). -/
def Position.wf : Position → Bool
  | .other form => !(1 ≤ form.toNat && form.toNat ≤ 3)
  | _ => true

/-- `other` stands for a selector that is none of the four (R14). -/
def PlanSelector.wf : PlanSelector → Bool
  | .other code => !(1 ≤ code.toNat && code.toNat ≤ 4)
  | _ => true

/-- `other` stands for a form that is none of the three (R155, R205). -/
def PlaceTarget.wf : PlaceTarget → Bool
  | .other form => !(1 ≤ form.toNat && form.toNat ≤ 3)
  | _ => true

/-- Bytes of a position (R205). -/
def Position.size : Position → Nat
  | .after _ => 3
  | _ => 1

/-- Bytes of an order description (R205). -/
def OrderDesc.size (d : OrderDesc) : Nat := 7 + d.route.length

/-- Bytes of an acceptance entry (R205). -/
def AcceptEntry.size (e : AcceptEntry) : Nat :=
  1 + e.maker.toList.length + e.model.toList.length + e.revision.toList.length

/-- A number of 1..top. -/
def numbered (top : Nat) (n : Byte) : Bool := 1 ≤ n.toNat && n.toNat ≤ top

/-- A maker code of 1..255 (R160). -/
def Identity.wf (i : Identity) : Bool := i.maker != 0

/-- The tag of a request command; a request with tag 0 is a malformed one (R194). -/
def Instr.tag? : Instr → Option Byte
  | .identify t | .queryAttention t | .restart t | .keepalive t | .armSilence t _ | .queryField t _
  | .planBegin t _ _ _ | .planRecord t _ | .planCommit t | .queryPlan t _ | .possessSection t _
  | .releaseSection t _ | .inhibitSections t _ | .permitSections t _ | .resetSection t _
  | .querySection t _ | .throwTurnout t _ _ | .resetTurnout t _ | .queryTurnout t _
  | .insertOrders t _ _ | .moveOrder t _ _ | .removeOrder t _ | .collectFinished t | .cancelOrder t _
  | .stopOrder t _ | .resumeOrder t _ | .queryOrder t _ | .listOrders t _ | .queryWaits t
  | .queryDeadlock t | .queryAuthority t _ | .queryMotion t _ | .lockPad t _ | .placeTelescope t _ _
  | .queryPad t _ | .queryTelescope t _ | .setAcceptance t _ | .queryAcceptance t | .queryRoster t
  | .querySlot t _ | .queryStrangers t | .releaseSlot t _ | .clearSlotFault t _
  | .setHoldPolicy t _ _ | .resetFeeder t _ | .resetStop t | .queryHolds t => some t
  | _ => none

/-- The check of a command's operands. -/
def Instr.operandsWf : Instr → Bool
  | .requestArrival _ _ p | .malformedRequest _ _ p | .planRecord _ p => decide (p.length ≤ payloadRoom)
  | .queryPlan _ sel => sel.wf
  | .inhibitSections _ l | .permitSections _ l => decide (l.length + 1 ≤ payloadRoom)
  | .insertOrders _ pos batch =>
    pos.wf && decide (pos.size + 1 + (batch.map OrderDesc.size).sum ≤ payloadRoom)
  | .moveOrder _ _ pos => pos.wf
  | .placeTelescope _ _ target => target.wf
  | .setAcceptance _ l => decide (1 + (l.map AcceptEntry.size).sum ≤ payloadRoom)
  | .detectorReport a _ _ | .turnoutReport a _ _ | .clampReport a _ _ | .fieldPollDue a => numbered 247 a
  | .announce a => a.ident.wf
  | .position i _ _ | .ack i _ | .busy i _ | .lifted i _ | .lowered i _ | .depart i _
  | .transporterReplyTimeout i | .transporterPollDue i | .busyDeferralEnd i _ => i.wf
  | .fault i _ code => i.wf && code != 0
  | .minimumHoldEnd n | .clearingTimerExpiry n | .provingTimerExpiry n | .entryConfirmationExpiry n =>
    numbered 240 n
  | .throwTimerExpiry n => numbered 48 n
  | _ => true

/-- A command the outside can send. -/
def Instr.wf (c : Instr) : Bool := (c.tag?.all (· != 0)) && c.operandsWf

end Sys2Proof
end

