-- ==== Sys2Proof/Safety.lean ====
section
/-! DEFINITION. What the statements about the machine are written in: what a command's end may touch, when
a request may be served, what its reply leaves, and the invariants every step keeps. -/

namespace Sys2Proof.Machine

/-! ## What a command's end touches -/

/-- The state without what hand-over checks, a scan, the links' turns and the attention set may change at a
command's end (log 8, log 9, log 10): the part that every command's end leaves as it was. -/
def P60.steady (s : P60) : P60 :=
  { s with
    out := [], tasks := [], scanDue := false, sections := [], turnouts := [], throwQueue := []
    orders := [], scanning := false, scanPending := false, deadlock := none
    slots := Vector.replicate 6 .initial, strangers := [], opsTx := [], conds := []
    counts := ⟨0, 0, 0, 0, 0, 0, 0⟩, commands := [] }

/-- What the roster, the reports and the hold unit say of a slot: the part that hand-over checks, a scan and
the link's turns leave as it was. -/
def Slot.kept (x : Slot) : Slot :=
  { Slot.initial with
    ident := x.ident, model := x.model, revision := x.revision, figures := x.figures
    reportedLoad := x.reportedLoad, announcedFront := x.announcedFront, announcedRear := x.announcedRear
    fault := x.fault, lastFault := x.lastFault, overlap := x.overlap, front := x.front, rear := x.rear
    speed := x.speed, windHold := x.windHold, held := x.held
    motion := { Motion.initial with standing := x.motion.standing, lastReport := x.motion.lastReport } }

/-- What the roster, the reports and the hold unit say of every slot. -/
def P60.slotsKept (s : P60) : Vector Slot 6 := s.slots.map Slot.kept

/-- A slot without what the transporter link keeps for it (R161, R143). -/
def Slot.unlinked (x : Slot) : Slot :=
  { x with peer := none, docking := { x.docking with transmitted := false } }

/-- A stranger without its peer record (R171). -/
def Stranger.unlinked (x : Stranger) : Stranger := { x with peer := .fresh }

/-- t is s after the transporter link's turn and the attention set's: frames sent, peers, the conditions as
they now stand, and an ATTENTION record for each gain (log 10, R195, R196). -/
def P60.linksOnly (s t : P60) : Prop :=
  t = { s with out := t.out, slots := t.slots, strangers := t.strangers, conds := t.conds, opsTx := t.opsTx } ∧
    (∀ k, (t.slot k).unlinked = (s.slot k).unlinked) ∧
    t.strangers.map Stranger.unlinked = s.strangers.map Stranger.unlinked ∧
    t.conds = s.condsNow ∧
    t.opsTx = s.opsTx ++ (s.condsNow.filter (fun c => !s.conds.contains c)).map (fun _ => .attention)

/-! ## The transporter link's turn -/

/-- The first of some places that holds a message which is due: one that BUSY has not deferred (R161, R162). -/
def Peer.dueIn (p : Peer) : List PlaceName → Option (PlaceName × Placed)
  | [] => none
  | place :: rest =>
    match p.get place with
    | some ⟨m, tag, sent, none⟩ => some (place, ⟨m, tag, sent, none⟩)
    | _ => p.dueIn rest

/-- A peer's turn on the transporter link at a reading of the clock. While an attempt is in flight, or with no
message due, nothing is sent; otherwise the message of the first place that holds one which is due, which then
awaits its reply for 200 ms; and a POLL's first sending is timed. The message sent, and the peer after it
(R161, R162, R163). -/
def Peer.turn (p : Peer) (now : Word) (places : List PlaceName) : Option Placed × Peer :=
  match p.attempt, p.dueIn places with
  | none, some (place, x) =>
    (some x,
      { p.set (some { x with sent := true }) place with
        attempt := some ⟨x.msg, place, x.tag, 200⟩
        lastPoll := if place = .poll ∧ x.sent = false then some now else p.lastPoll })
  | _, _ => (none, p)

/-- A bound slot's peer takes its turn: the bind, motion, docking and poll places in this order (R161). -/
def Slot.turn (x : Slot) (now : Word) : Option (Identity × Option Placed × Peer) :=
  match x.ident, x.peer with
  | some i, some p => some (i, p.turn now [.bind, .motion, .docking, .poll])
  | _, _ => none

/-- A slot after the transporter link's turn: its peer, and whether the LIFT or LOWER of its docking stage has
had its first transmission (R161, R143). -/
def Slot.afterTurn (x : Slot) (now : Word) : Slot :=
  match x.turn now with
  | none => x
  | some (_, m, q) =>
    { x with
      peer := some q
      docking := { x.docking with
        transmitted := x.docking.transmitted || m.any (fun m =>
          (m.msg == .lift && x.docking.awaiting == .lifted) ||
            (m.msg == .lower && x.docking.awaiting == .lowered)) } }

/-- The frame that a slot's turn puts on the transporter link, if it sends one. -/
def Slot.turnFrames (x : Slot) (now : Word) : List Frame :=
  match x.turn now with
  | some (i, some m, _) => [peerFrame i m.tag m.msg]
  | _ => []

/-- A listed stranger's peer takes its turn: the stand-down place, then the poll place (R161). -/
def Stranger.turn (x : Stranger) (now : Word) : Option Placed × Peer := x.peer.turn now [.standDown, .poll]

/-- The frame that a stranger's turn puts on the transporter link, if it sends one. -/
def Stranger.turnFrames (x : Stranger) (now : Word) : List Frame :=
  ((x.turn now).1.map (fun m => peerFrame x.ident m.tag m.msg)).toList

/-- The state after the turns of the transporter link and of the attention set, which take nothing else up: the
slots by number and then the strangers as listed (log 10), the conditions as they now stand, and an ATTENTION
record for each gain (R195, R196). -/
def P60.linksTurn (s : P60) : P60 :=
  { s with
    out := s.out ++ s.slots.toList.flatMap (·.turnFrames s.clock) ++ s.strangers.flatMap (·.turnFrames s.clock)
    slots := s.slots.map (·.afterTurn s.clock)
    strangers := s.strangers.map (fun x => { x with peer := (x.turn s.clock).2 })
    conds := s.condsNow
    opsTx := s.opsTx ++ (s.condsNow.filter (fun c => !s.conds.contains c)).map (fun _ => .attention) }

/-- No identity is listed twice among the strangers (R165, R171). -/
def P60.strangersDistinct (s : P60) : Prop := (s.strangers.map (·.ident)).Nodup

/-! ## Requests -/

/-- The request's turn has come: no RESTART is in progress, no request's write either, and the request is,
or now becomes, the head of the queue (R193, R199; log 4). -/
def P60.turnOf (s : P60) (r : Request) : Prop :=
  s.restart = none ∧ s.serving = false ∧ (s.requests = [] ∨ s.requests.head? = some r)

/-- The P60 as a command's own effect begins: no frame sent and nothing owed yet. -/
def P60.begun (s : P60) : P60 := { s with out := [], tasks := [], scanDue := false }

/-- The P60 with a request at the head of its queue, as its service begins. -/
def P60.withHead (s : P60) (r : Request) : P60 := { s.begun with requests := r :: s.requests.tail }

/-- The state after a request that changed nothing: it has left the queue, and its reply is formed, with
the request's tag, its kind with the high bit set, and the result before the fields (R193, R194). -/
def State.replied (s : State) (r : Request) (result : Result) (fields : List Byte) : State :=
  { s with
    p60 := { s.p60 with
      out := []
      requests := s.p60.requests.tail
      opsTx := s.p60.opsTx ++ [.reply ⟨r.tag, r.kind ||| 0x80, BitVec.ofNat 8 result.code :: fields⟩] } }

/-- Command c, which serves the request r at s, answers a next state: its own effect makes the state
`effect`, the links and the attention set take their turns, and r is answered OK with the fields. -/
def State.serves (s : State) (c : Instr) (r : Request) (effect : P60) (fields : List Byte) : Prop :=
  ∃ u, exec c s = .next { s with p60 := u.answer r ⟨.ok, fields⟩ } ∧ effect.linksOnly u

/-- Command c, which serves the request r at s, answers a next state in which r is refused with a result and
the fields named; nothing else happens but the turns of the links and the attention set (R194). -/
def State.refuses (s : State) (c : Instr) (r : Request) (result : Result) (fields : List Byte) : Prop :=
  ∃ u, exec c s = .next { s with p60 := u.answer r ⟨result, fields⟩ } ∧ (s.p60.withHead r).linksOnly u

/-- As `State.serves`, where the effect owes hand-over checks or brings a scan, which are made before the
reply is formed (log 8, log 9). -/
def State.servesAndSettles (s : State) (c : Instr) (r : Request) (effect : P60) (fields : List Byte) : Prop :=
  exec c s = .next { s with p60 := effect.settle.answer r ⟨.ok, fields⟩ }

/-- Command c at s answers a next state: its own effect makes the state `effect`, and the links and the
attention set take their turns. -/
def State.takes (s : State) (c : Instr) (effect : P60) : Prop :=
  ∃ u, exec c s = .next { s with p60 := u } ∧ effect.linksOnly u

/-- As `State.takes`, with every frame sent and every peer named: the whole state after the command. -/
def State.makes (s : State) (c : Instr) (effect : P60) : Prop :=
  exec c s = .next { s with p60 := effect.linksTurn }

/-- As `State.takes`, where the effect owes hand-over checks or brings a scan (log 8, log 9). -/
def State.takesAndSettles (s : State) (c : Instr) (effect : P60) : Prop :=
  exec c s = .next { s with p60 := effect.settle }

/-- The bytes of a frame: SYNC, LEN, TAG, KIND, the payload, and the CRC-16, high byte first (R192). -/
def requestFrame (tag kind : Byte) (payload : List Byte) : List Byte :=
  Frame.bytes ⟨.operations, tag, kind, payload⟩

/-! ## What requests name -/

/-- Section n is one of the ACTIVE plan, and r is its record (R13, R16, R37). -/
def P60.hasSection (s : P60) (n : Byte) (r : SectionRec) : Prop :=
  s.plan?.isSome ∧ 1 ≤ n.toNat ∧ n.toNat ≤ 240 ∧ s.section? n.toNat = some r

/-- Turnout t is one of the ACTIVE plan, and r is its record (R13, R44, R48). -/
def P60.hasTurnout (s : P60) (t : Byte) (r : TurnoutRec) : Prop :=
  s.plan?.isSome ∧ 1 ≤ t.toNat ∧ t.toNat ≤ 48 ∧ s.turnout? t.toNat = some r

/-- Pad n is one of the ACTIVE plan (R13, R153). -/
def P60.hasPad (s : P60) (n : Byte) (p : PlanPad) : Prop :=
  s.plan?.isSome ∧ 1 ≤ n.toNat ∧ n.toNat ≤ 160 ∧ s.planPad? n.toNat = some p

/-- Section n's record changed by f, every other left. -/
def P60.withSection (s : P60) (n : Byte) (f : SectionRec → SectionRec) : P60 :=
  { s with sections := s.sections.map (fun r => if r.num = n.toNat then f r else r) }

/-- Slot k's record changed by f, every other left. -/
def P60.withSlot (s : P60) (k : SlotId) (f : Slot → Slot) : P60 :=
  { s with slots := s.slots.set k (f (s.slot k)) }

/-- Feeder f's record changed by g, every other left. -/
def P60.withFeeder (s : P60) (f : FeederId) (g : Feeder → Feeder) : P60 :=
  { s with feeders := s.feeders.set f (g (s.feeder f)) }

/-- QUERY_PLAN's reply for the record of a type and number, the numbers of its kind ending at `top` (R14): the
bytes of the record from its number on (log 15). -/
def planItemReply (s : State) (r : Request) (type : Byte) (top : Nat) (n : Byte) : State :=
  match s.p60.plan with
  | .active p =>
    if n = 0 ∨ top < n.toNat then s.replied r .outOfRange []
    else
      match p.records.find? (fun b => b.take 2 == [type, n]) with
      | none => s.replied r .notInPlan []
      | some b => s.replied r .ok (b.drop 1)
  | _ => s.replied r .planNotActive []

/-! ## Plan records -/

/-- A neighbour of 0 goes with no end, a non-zero one with an end (R1, R11 step 3). -/
def RawJoin.ranged (j : RawJoin) : Prop :=
  (j.sec = 0 ∧ j.code = 0) ∨ (1 ≤ j.sec ∧ j.sec ≤ 240 ∧ 1 ≤ j.code ∧ j.code ≤ 4)

/-- Every field of a record lies in its range, and joins, turnout and pad are present or absent as a section's
kind, PLAIN, TURNOUT or SPUR, requires (R1, R3, R11 step 3). -/
def PlanRec.ranged : PlanRec → Prop
  | .sec r =>
    1 ≤ r.num ∧ r.num ≤ 240 ∧ 40000 ≤ r.length ∧ r.length ≤ 600000 ∧ 100 ≤ r.lineSpeed ∧ r.lineSpeed ≤ 1500 ∧
      1 ≤ r.feeder ∧ r.feeder ≤ 4 ∧ 1 ≤ r.detector ∧ r.detector ≤ 247 ∧ r.slack ≤ 120000 ∧
      r.a.ranged ∧ r.b.ranged ∧ r.br.ranged ∧
      ((r.kind = 1 ∧ r.br.sec = 0 ∧ r.turnout = 0 ∧ r.pad = 0) ∨
        (r.kind = 2 ∧ r.a.sec ≠ 0 ∧ r.b.sec ≠ 0 ∧ r.br.sec ≠ 0 ∧ 1 ≤ r.turnout ∧ r.turnout ≤ 48 ∧ r.pad = 0) ∨
        (r.kind = 3 ∧ r.a.sec ≠ 0 ∧ r.b.sec = 0 ∧ r.br.sec = 0 ∧ r.turnout = 0 ∧ 1 ≤ r.pad ∧ r.pad ≤ 160))
  | .turnout t => 1 ≤ t.num ∧ t.num ≤ 48 ∧ 1 ≤ t.sec ∧ t.sec ≤ 240 ∧ 1 ≤ t.address ∧ t.address ≤ 247
  | .pad d =>
    1 ≤ d.num ∧ d.num ≤ 160 ∧ 1 ≤ d.spur ∧ d.spur ≤ 240 ∧ 10000 ≤ d.stopOffset ∧ d.stopOffset ≤ 595000 ∧
      1 ≤ d.address ∧ d.address ≤ 247
  | .margin m => 500 ≤ m ∧ m ≤ 5000
  | .unknown => False

/-- A record defines nothing and uses no address that a record before it does (log 44), and what it names is
defined and of the kind asked (R11 step 4). -/
def Plan.referring (p : Plan) (before : List PlanRec) (r : PlanRec) : Prop :=
  (∀ q ∈ before, (r.defines? ≠ none → q.defines? ≠ r.defines?) ∧ (r.address? ≠ none → q.address? ≠ r.address?)) ∧
    match r with
    | .sec r => ∃ x, r.section? = some x ∧
      (∀ e j, e ∈ x.kind.ends → x.joinAt e = some j → j.sec ≠ x.num ∧
        ∃ y, p.section? j.sec = some y ∧ j.fin ∈ y.kind.ends) ∧
      (x.kind = .turnout → p.turnout? x.turnout ≠ none) ∧ (x.kind = .spur → p.pad? x.pad ≠ none)
    | .turnout t => ∃ x, p.section? t.sec = some x ∧ x.kind = .turnout
    | .pad d => ∃ x, p.section? d.spur = some x ∧ x.kind = .spur ∧ d.stopOffset + 5000 ≤ x.length
    | _ => True

/-- Every join of a section is returned by the end it leads to, and the two sections meet at no other pair of
ends (R11 step 5). -/
def Plan.returning (p : Plan) (r : PlanRec) : Prop :=
  ∀ x, r.section? = some x → ∀ e j, e ∈ x.kind.ends → x.joinAt e = some j →
    (∃ y, p.section? j.sec = some y ∧ y.joinAt j.fin = some ⟨x.num, e⟩) ∧
      ∀ e' j', e' ∈ x.kind.ends → x.joinAt e' = some j' → j'.sec = j.sec → e' = e

/-- A turnout and its TURNOUT section name each other, and so do a pad and its SPUR section (R11 step 6). -/
def Plan.corresponding (p : Plan) : PlanRec → Prop
  | .sec r => ∃ x, r.section? = some x ∧
    (x.kind = .turnout → ∃ t, p.turnout? x.turnout = some t ∧ t.sec = x.num) ∧
    (x.kind = .spur → ∃ d, p.pad? x.pad = some d ∧ d.spur = x.num)
  | .turnout t => ∃ x, p.section? t.sec = some x ∧ x.turnout = t.num
  | .pad d => ∃ x, p.section? d.spur = some x ∧ x.pad = d.num
  | _ => True

/-- Every record, with those before it, passes a check. -/
def passesAll (ok : List PlanRec → PlanRec → Prop) (rs : List PlanRec) : Prop :=
  ∀ a r b, rs = a ++ r :: b → ok a r

/-- The first record that fails a check stands at an index, counted from 1. -/
def firstFails (ok : List PlanRec → PlanRec → Prop) (rs : List PlanRec) (i : Nat) : Prop :=
  ∃ a r b, rs = a ++ r :: b ∧ i = a.length + 1 ∧ ¬ ok a r ∧ passesAll ok a

/-! ## Routes -/

/-- No two ends of a section lead to one other section (R2, R11 step 5). -/
def Plan.meetsOnce (p : Plan) : Prop :=
  ∀ x ∈ p.sections, ∀ e ∈ x.kind.ends, ∀ e' ∈ x.kind.ends, ∀ j ∈ x.joinAt e, ∀ j' ∈ x.joinAt e',
    j.sec = j'.sec → e = e'

/-- End e of section n is joined to end f of section m (R1). -/
def Plan.joined (p : Plan) (n m : Nat) (e f : SecEnd) : Prop :=
  ∃ x, p.section? n = some x ∧ e ∈ x.kind.ends ∧ x.joinAt e = some ⟨m, f⟩

/-- A list of route sections is the derivation of a route (R4). Each has its section's number, length and line speed.
It is left by the end joined to the next section, and the last by none. It is entered on the side of the end that the
section before is joined to, and the first on the side other than its exit's, A where it is the only one. A section
between two others is entered and left on opposite sides. The required leg is that of the B end it is left or
entered by; the first section has it by its exit end alone, and the last has none. -/
def Plan.derivation (p : Plan) (route : List Nat) (l : List RouteStep) : Prop :=
  route ≠ [] ∧ l.length = route.length ∧ ∀ i n, route[i]? = some n → ∃ t x, l[i]? = some t ∧
    p.section? n = some x ∧ t.sec = n ∧ t.length = x.length ∧ t.lineSpeed = x.lineSpeed ∧
    let leavesBy : SecEnd → Prop := fun e => ∃ m f, route[i + 1]? = some m ∧ p.joined n m e f
    let entersBy : SecEnd → Prop := fun f => ∃ m e, route[i - 1]? = some m ∧ p.joined m n e f
    (i = 0 → route.length = 1 → t.entry = .a ∧ t.exit = none ∧ t.leg = none) ∧
    (i = 0 → 1 < route.length → ∃ e, leavesBy e ∧ t.exit = some e ∧
      t.entry = (if e = .a then .b else .a) ∧ t.leg = e.leg?) ∧
    (0 < i → i + 1 = route.length → ∃ f, entersBy f ∧ t.exit = none ∧ t.entry = f.side ∧ t.leg = none) ∧
    (0 < i → i + 1 < route.length → ∃ e f, leavesBy e ∧ entersBy f ∧ e.side ≠ f.side ∧ t.exit = some e ∧
      t.entry = f.side ∧ t.leg = if e = .a then f.leg? else e.leg?)

/-! ## Orders -/

/-- The order an accepted description becomes (R60, R66). -/
def orderOfDesc (d : OrderDesc) : Option Order :=
  match orderKindOf d.kind, slotOf d.slot with
  | some kind, some slot =>
    some
      { id := d.id.toNat
        kind
        slot
        telescope := d.telescope.toNat
        pad := d.pad.toNat
        route := d.route.map (·.toNat)
        state := .queued
        routeIndex := 0
        interventions := 0
        promise := decide (kind = .deliver) }
  | _, _ => none

/-- Description d, behind those of `before` in its batch, fails none of R65's items a to f (id 0: log 38). -/
def P60.itemsPass (s : P60) (p : Plan) (before : List OrderDesc) (d : OrderDesc) : Prop :=
  s.order? d.id.toNat = none ∧ (∀ q ∈ before, q.id ≠ d.id) ∧
    s.orders.length + before.length + 1 ≤ 64 ∧ d.id ≠ 0 ∧
    ∃ kind slot, orderKindOf d.kind = some kind ∧ slotOf d.slot = some slot ∧
      (if kind = .run then d.telescope = 0 else 1 ≤ d.telescope.toNat ∧ d.telescope.toNat ≤ 64) ∧
      routeRefusal p (d.route.map (·.toNat)) d.pad.toNat = none ∧
      (kind = .deliver → s.promisedTo? d.pad.toNat = none ∧
        (∀ q ∈ before, orderKindOf q.kind = some .deliver → q.pad ≠ d.pad) ∧
        s.holder? d.pad.toNat = none)

/-! ## Replies of the other links -/

/-- A report with this address and tag answers the exchange e, which is with unit u of this kind (R200). -/
def P60.exchangeWith (s : P60) (address tag : Byte) (kind : UnitKind) (e : Exchange) (u : FieldUnit) : Prop :=
  s.exchange = some e ∧ e.address = address.toNat ∧ e.tag = tag ∧ s.unit? e.address = some u ∧ u.kind = kind

/-- The P60 as a report's owner receives it: the unit's failure count is 0, its reply is timed, the exchange has
ended, and a sweep poll has swept the unit (R200, R201, R202). -/
def P60.afterFieldReply (s : P60) (e : Exchange) : P60 :=
  let units := s.units.map (fun u =>
    if u.address = e.address then
      { u with failures := 0, lastReply := some s.clock, swept := u.swept || e.sweep }
    else u)
  { s.begun with
    exchange := none
    units
    sweep := if e.sweep = true ∧ s.sweep = .running ∧ units.all (·.swept) then .done else s.sweep }

/-- A message from identity i with this tag answers the attempt a of slot k's peer p (R162, R164). -/
def P60.attemptOf (s : P60) (i : Identity) (tag : Byte) (k : SlotId) (p : Peer) (a : Attempt) : Prop :=
  s.slotOf? i = some k ∧ (s.slot k).status ≠ .lost ∧ (s.slot k).peer = some p ∧ p.attempt = some a ∧ a.tag = tag

/-- The P60 as a message that answers slot k's attempt is handed on: the attempt is over (R162). -/
def P60.afterReply (s : P60) (k : SlotId) (p : Peer) : P60 :=
  s.begun.withSlot k (fun x => { x with peer := some (p.replied s.clock) })

/-! ## Invariants -/

/-- The set holds exactly the condition kinds whose conditions hold (R195). -/
def State.attentionAgrees (s : State) : Prop := s.p60.conds = s.p60.condsNow

/-- The request queue holds at most 8 requests (R193). -/
def State.queueBounded (s : State) : Prop := s.p60.requests.length ≤ 8

/-- The stranger list holds at most 8 entries (R171). -/
def State.strangersBounded (s : State) : Prop := s.p60.strangers.length ≤ 8

/-- The order list holds at most 64 orders (R65, R80). -/
def State.ordersBounded (s : State) : Prop := s.p60.orders.length ≤ 64

/-- No two section records of the table have one number. -/
def P60.sectionsDistinct (s : P60) : Prop := (s.sections.map (·.num)).Nodup

/-- No two section records of a plan have one number (R11 step 4). -/
def Plan.sectionsDistinct (p : Plan) : Prop := (p.sections.map (·.num)).Nodup

/-- No two sections have one number: not in the table, nor in the plan that storage holds, nor in one whose write
is under way, from which the table will be built (R11, R12, R16). -/
def State.sectionsDistinct (s : State) : Prop :=
  s.p60.sectionsDistinct ∧
    (∀ q, s.p60.nvm.plan = some q → (planOf q.id q.crc q.records).sectionsDistinct) ∧
    ∀ p, .planCommit p ∈ s.p60.writes →
      p.sectionsDistinct ∧ (planOf p.id p.crc p.records).sectionsDistinct

end Sys2Proof.Machine
end

