-- ==== Sys2Proof/Certificates/Slice0/Obligations.lean ====
section
/-! DEFINITION. The statements for the provers. A request's statements are about its service, when its turn
has come: `State.serves`, `State.refuses` and their kin say that exec answers a next state, and which. -/

section
open Sys2Proof Sys2Proof.Machine

/-! ## The queue of commands and the step -/

/-- A step takes the command at the front of the queue and runs it on the state with the queue's rest. -/
def Obligations.StepRunsTheFrontCommand : Prop :=
  ∀ (c : Instr) (rest : List Instr) (s : State), s.pending = c :: rest →
    step s = exec c { s with pending := rest }

/-- With no command waiting, an event of the P60's own that is due happens, or 10 ms pass and the clock
moves on (the model's choice, log 2). -/
def Obligations.StepWithoutCommands : Prop :=
  ∀ s : State, s.pending = [] →
    (∀ c, s.p60.due? = some c → step s = exec c s) ∧
      (s.p60.due? = none → ∃ p, step s = .next { s with p60 := p } ∧ p.clock = s.p60.clock + 10)

/-- Every command answers a next state, whatever the state, and leaves the queue of commands alone. That no
command ends in a fault or a refusal, an event that cannot have happened changing nothing, is the model's choice
(log 33, log 3): the spec names no event that stops the P60. -/
def Obligations.EveryCommandGivesANextState : Prop :=
  ∀ (c : Instr) (s : State), ∃ t, exec c s = .next t ∧ t.pending = s.pending

/-- What is read from the request of a well-formed request command is that command, every operand at every
value (section 11.6, R205; a form that is none of those listed: the model's choice, log 17; a tag of 0: log 32). -/
def Obligations.RequestsReadBack : Prop :=
  ∀ (c : Instr) (r : Request), c.wf = true → c.tag?.isSome → requestOf c = some r → readRequest r = c

/-! ## Invariants -/

/-- After every step from a state where it does, the attention set holds exactly the condition kinds whose
conditions hold. -/
def Obligations.AttentionAgreesAfterEveryStep : Prop :=
  ∀ s t : State, s.attentionAgrees → step s = .next t → t.attentionAgrees

/-- No step makes the request queue longer than 8, the stranger list longer than 8 or the order list longer than
64. -/
def Obligations.QueueAndListsStayBounded : Prop :=
  (∀ s t : State, s.queueBounded → step s = .next t → t.queueBounded) ∧
  (∀ s t : State, s.strangersBounded → s.ordersBounded → step s = .next t →
    t.strangersBounded ∧ t.ordersBounded)

/-- No step gives two sections one number, in the table, in the stored plan or in one that is being written. -/
def Obligations.SectionNumbersStayDistinct : Prop :=
  ∀ s t : State, s.sectionsDistinct → step s = .next t → t.sectionsDistinct

/-- The machine right after reset: nothing pending, and every table, queue and record at the value the spec
gives, with the invariants true. That the input lines are deasserted, as the feeders' inputs here, and what storage
holds at the first power-on is the model's choice (log 13). -/
def Obligations.ResetLeavesTheMachineEmpty : Prop :=
  State.reset.pending = [] ∧ State.reset.p60.plan = .absent ∧ State.reset.p60.sections = [] ∧
    State.reset.p60.turnouts = [] ∧ State.reset.p60.throwQueue = [] ∧ State.reset.p60.orders = [] ∧
    State.reset.p60.scanning = false ∧ State.reset.p60.scanPending = false ∧
    State.reset.p60.deadlock = none ∧ State.reset.p60.pads = [] ∧
    (∀ k, State.reset.p60.slot k = Slot.initial) ∧ State.reset.p60.strangers = [] ∧
    State.reset.p60.changeSet = none ∧ State.reset.p60.nvm.plan = none ∧
    State.reset.p60.nvm.acceptance = [] ∧ (∀ t, State.reset.p60.location t = .unplaced) ∧
    State.reset.p60.ladenPolicy = .stopNow ∧ State.reset.p60.unladenPolicy = .atBoundary ∧
    State.reset.p60.silence.state = .unarmed ∧ State.reset.p60.silence.applied = 0 ∧
    State.reset.p60.silence.pending = none ∧ State.reset.p60.estop = false ∧
    State.reset.p60.requests = [] ∧ State.reset.p60.counts = ⟨0, 0, 0, 0, 0, 0, 0⟩ ∧
    State.reset.p60.exchange = none ∧ State.reset.p60.fieldTag = 0 ∧ State.reset.p60.commands = [] ∧
    State.reset.p60.sweep = .none ∧ State.reset.p60.clock = 0 ∧
    (∀ f, State.reset.p60.feeder f = ⟨.starting 1500, false, 0, 0, []⟩) ∧
    State.reset.attentionAgrees ∧ State.reset.queueBounded ∧ State.reset.strangersBounded ∧
    State.reset.ordersBounded ∧ State.reset.sectionsDistinct

/-! ## Power, restart, identity -/

/-- Power-on: everything but storage and the input lines comes up at its reset value; the plan comes up
ACTIVE with its tables built and its inhibits reloaded where one is retained and its CRC agrees, is erased
with its inhibits where it does not, and is ABSENT otherwise. That the reception of the transporter and field links
is empty, that no slot has a release ahead or a return due, and that no record but the conditions' waits for
transmission is the model's choice (log 13). -/
def Obligations.PowerOnComesUpFromStorage : Prop :=
  ∀ s : State, ∃ p, exec .powerOn s = .next { s with p60 := p } ∧
    p.clock = 0 ∧ p.orders = [] ∧ p.requests = [] ∧ p.restart = none ∧ p.throwQueue = [] ∧
    p.scanning = false ∧ p.scanPending = false ∧ p.deadlock = none ∧ p.strangers = [] ∧
    p.changeSet = none ∧ p.commands = [] ∧ p.exchange = none ∧ p.fieldTag = 0 ∧ p.writes = [] ∧
    p.counts = ⟨0, 0, 0, 0, 0, 0, 0⟩ ∧ p.opsRx = [] ∧ p.transporterRx = [] ∧ p.fieldRx = [] ∧
    (∀ k, p.slot k = Slot.initial) ∧
    p.silence.state = .unarmed ∧ p.silence.applied = 0 ∧ p.silence.pending = none ∧
    p.windInput = s.p60.windInput ∧ p.estopInput = s.p60.estopInput ∧ p.estop = s.p60.estopInput ∧
    p.ladenPolicy = s.p60.nvm.ladenPolicy ∧ p.unladenPolicy = s.p60.nvm.unladenPolicy ∧
    p.nvm.locations = s.p60.nvm.locations ∧ p.nvm.acceptance = s.p60.nvm.acceptance ∧
    (∀ f, p.feeder f =
      ⟨if (s.p60.feeder f).input then .tripped else .starting 1500, (s.p60.feeder f).input, 0, 0, []⟩) ∧
    p.out = (if s.p60.estopInput then [allStopFrame] else []) ∧
    p.allStop = (if s.p60.estopInput then some ⟨2, 100⟩ else none) ∧
    p.conds = p.condsNow ∧ p.opsTx = p.conds.map (fun _ => .attention) ∧
    (match s.p60.nvm.plan with
      | none =>
        p.plan = .absent ∧ p.sections = [] ∧ p.turnouts = [] ∧ p.pads = [] ∧ p.units = [] ∧ p.sweep = .none ∧
          p.nvm = s.p60.nvm
      | some q =>
        if crc32 q.records.flatten = q.crc then
          p.plan = .active (planOf q.id q.crc q.records) ∧ p.nvm = s.p60.nvm ∧ p.sweep = .running ∧
            p.sections = (planOf q.id q.crc q.records).sections.map
              (fun x => ⟨x.num, .unproven, s.p60.nvm.inhibits.contains x.num, false, .none, []⟩) ∧
            p.turnouts = (planOf q.id q.crc q.records).turnouts.map
              (fun x => ⟨x.num, x.sec, .undetected, .none, 0⟩) ∧
            p.pads = (planOf q.id q.crc q.records).pads.map (fun x => ⟨x.num, .unknown, none⟩) ∧
            p.units = (planOf q.id q.crc q.records).units ∧
            p.units.all (fun u => u.failures == 0 && u.lastReply == none && !u.swept)
        else
          p.plan = .absent ∧ p.sections = [] ∧ p.turnouts = [] ∧ p.pads = [] ∧ p.units = [] ∧ p.sweep = .none ∧
            p.nvm = { s.p60.nvm with plan := none, inhibits := [] })

/-- RESTART: its service forms the reply OK and loses the requests behind it; the reply's transmission, with
everything formed before it, requests ALL_STOP, which brakes every GIVEN authority and empties each motion place
that holds an AUTHORITY (R113; the request is spelled whole by StopsBrakeAndAreReset); and after ALL_STOP's last
sending the P60 does what it does at power-on. That one command transmits every record formed before the reply is
the model's choice (log 23). -/
def Obligations.RestartRunsToTheReset : Prop :=
  (∀ (tag : Byte) (s : State), tag ≠ 0 → s.p60.turnOf ⟨tag, 0x03, []⟩ →
    exec (.restart tag) s = .next { s with
      p60 := { s.p60 with
        out := []
        requests := []
        restart := some .replying
        opsTx := s.p60.opsTx ++ [.reply ⟨tag, 0x83, [0]⟩] } }) ∧
  (∀ (tag : Byte) (before after : List TxRecord) (s : State), s.p60.restart = some .replying →
    s.p60.opsTx = before ++ .reply ⟨tag, 0x83, [0]⟩ :: after → before.all (fun r => !r.isRestart) →
    ∃ p, exec .restartReplySent s = .next { s with p60 := p } ∧ p.restart = some .stopping ∧
      p.opsTx = after ∧ p.allStop = some ⟨2, 100⟩ ∧
      p.out = (before ++ [TxRecord.reply ⟨tag, 0x83, [0]⟩]).map s.p60.txFrame ++ [allStopFrame] ∧
      ∀ k, (p.slot k).authority.state =
        match (s.p60.slot k).authority.state with
        | .given e => .braked e
        | st => st) ∧
  (∀ (tag : Byte) (before after : List TxRecord) (s : State), s.p60.restart = some .replying →
    s.p60.opsTx = before ++ .reply ⟨tag, 0x83, [0]⟩ :: after → before.all (fun r => !r.isRestart) →
    exec .restartReplySent s = .next { s with p60 := { P60.allStopRequest { s.p60 with
      out := (before ++ [TxRecord.reply ⟨tag, 0x83, [0]⟩]).map s.p60.txFrame
      opsTx := after } with restart := some .stopping } }) ∧
  (∀ s : State, s.p60.restart = some .stopping → s.p60.allStop = none →
    ∃ p, exec .restartReset s = .next { s with p60 := p } ∧ exec .powerOn s = .next { s with p60 := p })

/-- IDENTIFY is answered OK in every plan state and changes nothing: vendor code 5Ah, part code 0060h, the
firmware level (free values, log 14), and the committed plan's id while the plan is ACTIVE, 0 otherwise. Stated
while no transfer is written: that IDENTIFY waits for one is the model's choice (log 52). -/
def Obligations.IdentifyReply : Prop :=
  ∀ (tag : Byte) (s : State), tag ≠ 0 → s.p60.turnOf ⟨tag, 0x01, []⟩ → s.p60.transferring = false →
    exec (.identify tag) s = .next (s.replied ⟨tag, 0x01, []⟩ .ok
      ([0x5A, 0x00, 0x60, Config.firmwareMajor, Config.firmwareMinor] ++
        b4 (match s.p60.plan with
          | .active p => p.id.toNat
          | _ => 0)))

/-! ## The request port and the attention set -/

/-- A request that arrives joins the queue's tail below 8 (without the bits that no reading keeps: the model's
choice, log 17), draws BUSY from a full queue and is not queued, and has no effect while a RESTART is in progress. A
malformed request is refused MALFORMED and changes nothing else; tag 0, a kind that no request has, a plan record
of a wrong length, a payload behind a kind without operands, and a payload of another length than that of a kind
whose operands have one length each make a request malformed (the kinds whose operands vary in length are left
out). -/
def Obligations.RequestsArriveOrAreRefused : Prop :=
  (∀ (tag kind : Byte) (payload : List Byte) (s : State), payload.length ≤ 248 →
    (s.p60.restart = none → s.p60.requests.length < 8 →
      exec (.requestArrival tag kind payload) s = .next { s with
        p60 := { s.p60 with
          out := []
          requests := s.p60.requests ++ [Request.canonical ⟨tag, kind, payload⟩] } }) ∧
    (s.p60.restart = none → 8 ≤ s.p60.requests.length →
      exec (.requestArrival tag kind payload) s = .next { s with
        p60 := { s.p60 with
          out := []
          opsTx := s.p60.opsTx ++ [.reply ⟨tag, kind ||| 0x80, [1]⟩] } }) ∧
    (s.p60.restart ≠ none →
      exec (.requestArrival tag kind payload) s = .next { s with p60 := { s.p60 with out := [] } })) ∧
  (∀ (tag kind : Byte) (payload : List Byte) (s : State), Request.malformed ⟨tag, kind, payload⟩ = true →
    payload.length ≤ 248 → s.p60.turnOf ⟨tag, kind, payload⟩ →
    exec (.malformedRequest tag kind payload) s =
      .next (s.replied ⟨tag, kind, payload⟩ .malformed [])) ∧
  (∀ (tag kind : Byte) (payload : List Byte),
    tag = 0 ∨ 0x7F ≤ kind.toNat ∨ (kind = 0x11 ∧ recordLayout payload = false) ∨
      (kind ∈ [0x01, 0x02, 0x03, 0x04, 0x12, 0x2B, 0x34, 0x35, 0x41, 0x42, 0x44, 0x4A, 0x4B] ∧ payload ≠ []) ∨
      (kind ∈ [0x06, 0x18, 0x19, 0x1C, 0x1D, 0x21, 0x22, 0x30, 0x36, 0x37, 0x38, 0x3A, 0x3B, 0x43, 0x45, 0x46, 0x49] ∧
        payload.length ≠ 1) ∨
      (kind ∈ [0x20, 0x2A, 0x2C, 0x2D, 0x2E, 0x2F, 0x48] ∧ payload.length ≠ 2) ∨
      (kind = 0x05 ∧ payload.length ≠ 4) ∨ (kind = 0x10 ∧ payload.length ≠ 10) ∨
      kind ∉ [0x01, 0x02, 0x03, 0x04, 0x05, 0x06, 0x10, 0x11, 0x12, 0x13, 0x18, 0x19, 0x1A, 0x1B, 0x1C, 0x1D, 0x20,
        0x21, 0x22, 0x28, 0x29, 0x2A, 0x2B, 0x2C, 0x2D, 0x2E, 0x2F, 0x30, 0x34, 0x35, 0x36, 0x37, 0x38, 0x39, 0x3A,
        0x3B, 0x40, 0x41, 0x42, 0x43, 0x44, 0x45, 0x46, 0x48, 0x49, 0x4A, 0x4B] →
    Request.malformed ⟨tag, kind, payload⟩ = true)

/-- QUERY_ATTENTION returns the mask and counts as they stand, and in the same step every event kind leaves
the set; the attention output then follows the condition kinds alone. -/
def Obligations.QueryAttentionReturnsAndClears : Prop :=
  ∀ (tag : Byte) (s : State), tag ≠ 0 → s.p60.turnOf ⟨tag, 0x02, []⟩ → s.p60.transferring = false →
    ∃ u, exec (.queryAttention tag) s = .next { s with
        p60 := P60.answer u ⟨tag, 0x02, []⟩
          ⟨.ok, bFlags (allEvents.map (fun e => s.p60.counts.get e != 0)) ++
            bFlags (allConds.map s.p60.conds.contains) ++
            allEvents.map (fun e => BitVec.ofNat 8 (s.p60.counts.get e))⟩ } ∧
      { s.p60.withHead ⟨tag, 0x02, []⟩ with counts := ⟨0, 0, 0, 0, 0, 0, 0⟩ }.linksOnly u ∧
      (u.attentionOutput = true ↔ s.p60.condsNow ≠ [])

/-- The receivers: bytes with no C5h are discarded; a request frame found after such bytes in a damaged run is
handed on as the request it is; a frame whose CRC does not agree loses its SYNC alone, the bytes behind it being
hunted through again, so that a C5h among them can begin a frame; and an attempt that ends by a gap is dropped from
its SYNC on. What a run of bytes that is no frame leaves in the receiver is the model's choice (log 25). -/
def Obligations.ReceiversHuntForFrames : Prop :=
  (∀ (link : Link) (bytes : List Byte) (s : State), s.p60.rx link = [] → (0xC5 : Byte) ∉ bytes →
    exec (.corruptFrame link bytes) s = .next { s with p60 := { s.p60 with out := [] } }) ∧
  (∀ (tag kind : Byte) (junk payload : List Byte) (s : State), s.p60.rx .operations = [] →
    (0xC5 : Byte) ∉ junk → payload.length ≤ 248 →
    exec (.corruptFrame .operations
        (junk ++ requestFrame tag kind payload)) s = exec (.requestArrival tag kind payload) s) ∧
  (∀ (link : Link) (n h l : Byte) (body rest : List Byte) (s : State), s.p60.rx link = [] →
    2 ≤ n.toNat → n.toNat ≤ 250 → body.length = n.toNat → crc16 (n :: body) ≠ h ++ l →
    exec (.corruptFrame link (0xC5 :: n :: (body ++ h :: l :: rest))) s =
      exec (.corruptFrame link (n :: (body ++ h :: l :: rest))) s) ∧
  (∀ (link : Link) (rest : List Byte) (s : State), s.p60.rx link = 0xC5 :: rest → (0xC5 : Byte) ∉ rest →
    exec (.interByteTimeout link) s = .next { s with p60 := { s.p60 with out := [] }.setRx [] link })

/-- Raising an event kind: its count rises by one and stays at 255, and from absence it forms one ATTENTION
record. An ATTENTION record's transmission: the replies formed before it go first, and it carries the set as it
stands now. That the command transmits those replies too, and when, is the model's choice (log 23). -/
def Obligations.AttentionRecordsAndGains : Prop :=
  (∀ (e : EventKind) (s : P60),
    (s.raise e).counts.get e = min 255 (s.counts.get e + 1) ∧
      (∀ d, d ≠ e → (s.raise e).counts.get d = s.counts.get d) ∧
      (s.raise e).opsTx = s.opsTx ++ (if s.counts.get e = 0 then [.attention] else []) ∧
      { s.raise e with counts := s.counts, opsTx := s.opsTx } = s) ∧
  (∀ (before after : List TxRecord) (s : State), s.p60.opsTx = before ++ .attention :: after →
    before.all (fun r => r != .attention && !r.isRestart) →
    exec .attentionRecord s = .next { s with
      p60 := { s.p60 with
        out := before.map s.p60.txFrame ++ [⟨.operations, 0, 0x7F,
          bFlags (allEvents.map (fun e => s.p60.counts.get e != 0)) ++
            bFlags (allConds.map s.p60.conds.contains) ++
            allEvents.map (fun e => BitVec.ofNat 8 (s.p60.counts.get e))⟩]
        opsTx := after } })

/-! ## The plan store -/

/-- PLAN_BEGIN, in the order of R7's table (R194 read beside it: log 37): OUT_OF_RANGE for a count or an id out of
range, held list or not; then LIST_HELD while the list is held; then BAD_STATE while the plan is in use. Otherwise
every QUEUED order becomes FAILED(PLAN_CHANGED), its promise freed, with its ORDER_FINISHED and its scan, a second
one bringing a further scan (R8, R75, R82); the present plan is erased with its inhibits and every table of it, and
an empty load buffer is open. PLAN_RECORD: a wrong type or length is MALFORMED, then BAD_STATE outside LOADING, then OUT_OF_RANGE for a full
buffer; otherwise the record is appended as received and the reply carries its index. -/
def Obligations.PlanLoadsRecordByRecord : Prop :=
  (∀ (tag : Byte) (count : Half) (crc id : Word) (r : Request) (s : State), tag ≠ 0 →
    r = ⟨tag, 0x10, b2 count.toNat ++ b4 crc.toNat ++ b4 id.toNat⟩ → s.p60.turnOf r →
    (count.toNat < 2 ∨ 449 < count.toNat ∨ id = 0 →
      s.refuses (.planBegin tag count crc id) r .outOfRange []) ∧
    (2 ≤ count.toNat → count.toNat ≤ 449 → id ≠ 0 →
      (s.p60.scanning = true → s.refuses (.planBegin tag count crc id) r .listHeld []) ∧
      (s.p60.scanning = false →
        let queued := s.p60.orders.countP (fun x => x.state == .queued)
        ((∃ x ∈ s.p60.sections, x.occ.owner?.isSome) ∨ (∃ o ∈ s.p60.orders, o.state.live) ∨
            s.p60.throwQueue ≠ [] ∨ (∃ t ∈ s.p60.turnouts, t.state.slot?.isSome) →
          s.refuses (.planBegin tag count crc id) r .badState []) ∧
        ((∀ x ∈ s.p60.sections, x.occ.owner? = none) → (∀ o ∈ s.p60.orders, o.state.live = false) →
            s.p60.throwQueue = [] → (∀ t ∈ s.p60.turnouts, t.state.slot? = none) →
          ∃ u, exec (.planBegin tag count crc id) s = .next { s with p60 := P60.answer u r ⟨.ok, []⟩ } ∧
            u.plan = .loading ⟨count.toNat, crc, id⟩ [] ∧
            u.nvm = { s.p60.nvm with plan := none, inhibits := [] } ∧
            u.sections = [] ∧ u.turnouts = [] ∧ u.pads = [] ∧ u.units = [] ∧ u.exchange = none ∧
            u.sweep = .none ∧ (∀ f, (u.feeder f).held = []) ∧
            u.orders = s.p60.orders.map (fun x =>
              if ∃ y ∈ s.p60.orders, y.id = x.id ∧ y.state = .queued then
                { x with state := .failed .planChanged, promise := false }
              else x) ∧
            u.counts.orderFinished =
              (if queued = 0 then s.p60.counts.orderFinished
              else min 255 (s.p60.counts.orderFinished + queued)) ∧
            u.scanning = decide (1 ≤ queued) ∧
            u.scanPending = (s.p60.scanPending || decide (2 ≤ queued)))))) ∧
  (∀ (tag : Byte) (bytes : List Byte) (s : State), tag ≠ 0 → bytes.length ≤ 248 →
    s.p60.turnOf ⟨tag, 0x11, bytes⟩ →
    (¬ ((bytes.head? = some 1 ∧ bytes.length = 23) ∨ (bytes.head? = some 2 ∧ bytes.length = 4) ∨
        (bytes.head? = some 3 ∧ bytes.length = 8) ∨ (bytes.head? = some 4 ∧ bytes.length = 3)) →
      exec (.planRecord tag bytes) s = .next (s.replied ⟨tag, 0x11, bytes⟩ .malformed [])) ∧
    ((bytes.head? = some 1 ∧ bytes.length = 23) ∨ (bytes.head? = some 2 ∧ bytes.length = 4) ∨
        (bytes.head? = some 3 ∧ bytes.length = 8) ∨ (bytes.head? = some 4 ∧ bytes.length = 3) →
      match s.p60.plan with
      | .loading h buffer =>
        if h.count ≤ buffer.length then s.refuses (.planRecord tag bytes) ⟨tag, 0x11, bytes⟩ .outOfRange []
        else
          s.serves (.planRecord tag bytes) ⟨tag, 0x11, bytes⟩
            { s.p60.withHead ⟨tag, 0x11, bytes⟩ with plan := .loading h (buffer ++ [bytes]) }
            (b2 (buffer.length + 1))
      | _ => s.refuses (.planRecord tag bytes) ⟨tag, 0x11, bytes⟩ .badState []))

/-- PLAN_COMMIT, while no transfer is written (it waits for one: log 52): BAD_STATE outside LOADING; a failing check
makes the plan INVALID, with its reason and index in the reply; a plan that passes begins its write, with no reply
yet. The seven steps in order: COUNT, CRC, RANGE, REFERENCE, SYMMETRY, CORRESPONDENCE, CUSTODY, each of the four in
the middle with the index of the first record that fails it (of two records with one address the later, and a number
defined twice read as first defined: log 44). The plan holds the records' sections, turnouts, pads and margin. The
write's end: the plan is stored and ACTIVE, its tables are built, the sweep runs, a scan is triggered, and the reply
is OK with the plan id and the numbers committed. -/
def Obligations.PlanIsCheckedAndCommitted : Prop :=
  (∀ (tag : Byte) (s : State), tag ≠ 0 → s.p60.turnOf ⟨tag, 0x12, []⟩ → s.p60.transferring = false →
    match s.p60.plan with
    | .loading h buffer =>
      (match s.p60.checkPlan h buffer with
        | some (reason, index) =>
          ∃ u, exec (.planCommit tag) s = .next { s with
              p60 := P60.answer u ⟨tag, 0x12, []⟩ ⟨.planCheckFailed, b1 reason.code ++ b2 index⟩ } ∧
            { s.p60.withHead ⟨tag, 0x12, []⟩ with
              plan := .invalid h buffer.length reason index }.linksOnly u ∧
            .planInvalid ∈ u.conds
        | none =>
          s.takes (.planCommit tag) { s.p60.withHead ⟨tag, 0x12, []⟩ with
            writes := s.p60.writes ++ [.planCommit (planOf h.id h.crc buffer)] })
    | _ => s.refuses (.planCommit tag) ⟨tag, 0x12, []⟩ .badState []) ∧
  (∀ (h : LoadHeader) (buffer : List (List Byte)) (s : P60),
    let rs := buffer.map readRecord
    let p := planOf h.id h.crc buffer
    let range : List PlanRec → PlanRec → Prop := fun _ r => r.ranged
    let symmetry : List PlanRec → PlanRec → Prop := fun _ r => p.returning r
    let correspondence : List PlanRec → PlanRec → Prop := fun _ r => p.corresponding r
    let counted : Prop := buffer.length = h.count ∧ (∃ a m b, rs = a ++ .margin m :: b ∧
        ∀ r ∈ a ++ b, ∀ m, r ≠ .margin m) ∧ ∃ r, PlanRec.sec r ∈ rs
    let stranded : Nat → Prop := fun t => 1 ≤ t ∧ t ≤ 64 ∧ ∃ n, s.location t = .pad n ∧ p.pad? n = none
    (¬ counted → s.checkPlan h buffer = some (.count, 0)) ∧
    (counted → crc32 buffer.flatten ≠ h.crc → s.checkPlan h buffer = some (.crc, 0)) ∧
    (counted → crc32 buffer.flatten = h.crc →
      (∀ i, firstFails range rs i → s.checkPlan h buffer = some (.range, i)) ∧
      (passesAll range rs →
        (∀ i, firstFails p.referring rs i → s.checkPlan h buffer = some (.reference, i)) ∧
        (passesAll p.referring rs →
          (∀ i, firstFails symmetry rs i → s.checkPlan h buffer = some (.symmetry, i)) ∧
          (passesAll symmetry rs →
            (∀ i, firstFails correspondence rs i → s.checkPlan h buffer = some (.correspondence, i)) ∧
            (passesAll correspondence rs →
              (∀ t, stranded t → (∀ t', stranded t' → t ≤ t') → s.checkPlan h buffer = some (.custody, t)) ∧
              ((∀ t, ¬ stranded t) → s.checkPlan h buffer = none))))))) ∧
  (∀ (id crc : Word) (l : List (List Byte)),
    let p := planOf id crc l
    let join : Byte → Byte → Option Join := fun n e =>
      if e = 1 then some ⟨n.toNat, .a⟩ else if e = 2 then some ⟨n.toNat, .b⟩
      else if e = 3 then some ⟨n.toNat, .bNormal⟩ else if e = 4 then some ⟨n.toNat, .bReverse⟩ else none
    p.id = id ∧ p.crc = crc ∧ p.records = l ∧
      p.sections = l.filterMap (fun b => match b with
        | [1, n, k, l3, l2, l1, l0, v1, v0, f, d, s3, s2, s1, s0, aj, ae, bj, be, rj, re, t, q] =>
          let x : SectionKind → PlanSection := fun kind =>
            { num := n.toNat, kind, length := n4 l3 l2 l1 l0, lineSpeed := n2 v1 v0
              feeder := ⟨(f.toNat - 1) % 4, Nat.mod_lt _ (by decide)⟩, detector := d.toNat
              slack := n4 s3 s2 s1 s0, aJoin := join aj ae, bJoin := join bj be, brJoin := join rj re
              turnout := t.toNat, pad := q.toNat }
          if k = 1 then some (x .plain) else if k = 2 then some (x .turnout) else if k = 3 then some (x .spur)
          else none
        | _ => none) ∧
      p.turnouts = l.filterMap (fun b => match b with
        | [2, n, x, a] => some ⟨n.toNat, x.toNat, a.toNat⟩
        | _ => none) ∧
      p.pads = l.filterMap (fun b => match b with
        | [3, n, x, o3, o2, o1, o0, a] => some ⟨n.toNat, x.toNat, n4 o3 o2 o1 o0, a.toNat⟩
        | _ => none) ∧
      (∀ a b m1 m0, l = a ++ [4, m1, m0] :: b → (∀ r ∈ a, r.head? ≠ some 4) → p.margin = n2 m1 m0)) ∧
  (∀ (p : Plan) (rest : List NvmWrite) (r : Request) (behind : List Request) (s : State),
    s.p60.writes = .planCommit p :: rest → s.p60.requests = r :: behind →
    exec .nvmWriteComplete s = .next { s with
      p60 := P60.answer (P60.settle { s.p60.begun with
          scanDue := true
          writes := rest
          nvm := { s.p60.nvm with plan := some ⟨p.records, p.id, p.crc⟩ }
          plan := .active p
          sections := p.sections.map (fun x => ⟨x.num, .unproven, false, false, .none, []⟩)
          turnouts := p.turnouts.map (fun x => ⟨x.num, x.sec, .undetected, .none, 0⟩)
          pads := p.pads.map (fun x => ⟨x.num, .unknown, none⟩)
          throwQueue := []
          units := p.units
          sweep := .running }) r
        ⟨.ok, b4 p.id.toNat ++ b1 p.sections.length ++ b1 p.turnouts.length ++ b1 p.pads.length⟩ })

/-- QUERY_PLAN: SUMMARY in each plan state, and the record of a section, turnout or pad as committed, with the
refusals in R14's order; nothing else changes (the bytes of a record: log 15). -/
def Obligations.QueryPlanReturnsThePlan : Prop :=
  ∀ (tag : Byte) (sel : PlanSelector) (r : Request) (s : State), tag ≠ 0 → sel.wf = true →
    r = ⟨tag, 0x13, selectorBytes sel⟩ → s.p60.turnOf r → s.p60.transferring = false →
    exec (.queryPlan tag sel) s = .next (match sel with
      | .summary => s.replied r .ok (match s.p60.plan with
        | .absent => b1 1 ++ List.replicate 20 0
        | .loading h buffer =>
          b1 2 ++ b4 h.id.toNat ++ b4 h.crc.toNat ++ b2 h.count ++ b2 buffer.length ++ List.replicate 8 0
        | .active p =>
          b1 3 ++ b4 p.id.toNat ++ b4 p.crc.toNat ++ b2 p.records.length ++ b2 p.records.length ++
            b1 p.sections.length ++ b1 p.turnouts.length ++ b1 p.pads.length ++ b2 p.margin ++
            List.replicate 3 0
        | .invalid h received reason index =>
          b1 4 ++ b4 h.id.toNat ++ b4 h.crc.toNat ++ b2 h.count ++ b2 received ++ List.replicate 5 0 ++
            b1 reason.code ++ b2 index)
      | .other _ => s.replied r .outOfRange []
      | .sec n => planItemReply s r 1 240 n
      | .turnout n => planItemReply s r 2 48 n
      | .pad n => planItemReply s r 3 160 n)

/-! ## Sections -/

/-- POSSESS_SECTION: LOCKED for an owned section, then BAD_STATE for one not FREE or inhibited, then BUSY for a
turnout in a throw; otherwise the section is RESERVED by OPERATIONS_POSSESSION from now on, and each waiter
waits on it. -/
def Obligations.PossessSectionTakesAFreeSection : Prop :=
  ∀ (tag n : Byte) (x : SectionRec) (s : State), tag ≠ 0 → s.p60.turnOf ⟨tag, 0x18, [n]⟩ →
    s.p60.hasSection n x →
    (x.occ.owner?.isSome → s.refuses (.possessSection tag n) ⟨tag, 0x18, [n]⟩ .locked []) ∧
    (x.occ = .unproven ∨ x.occ = .disturbed ∨ (∃ t, x.occ = .releasing t) ∨ (x.occ = .free ∧ x.inhibit = true) →
      s.refuses (.possessSection tag n) ⟨tag, 0x18, [n]⟩ .badState []) ∧
    (x.occ = .free → x.inhibit = false →
      ((∃ t, s.p60.turnoutIn? n.toNat = some t ∧ t.state.slot?.isSome) →
        s.refuses (.possessSection tag n) ⟨tag, 0x18, [n]⟩ .busy []) ∧
      ((∀ t, s.p60.turnoutIn? n.toNat = some t → t.state.slot? = none) →
        s.serves (.possessSection tag n) ⟨tag, 0x18, [n]⟩
          (((s.p60.withHead ⟨tag, 0x18, [n]⟩).withSection n (fun x =>
            { x with occ := .reserved ⟨.possession, none, none, s.p60.clock, false, false, none⟩ none })).reviseWaits
              n.toNat .possession) []))

/-- RELEASE_SECTION: a possession's release takes effect at once when 2,000 ms have passed since the time
reserved, and is deferred otherwise; a FREE section and a release already pending are answered OK without a
change; LOCKED for a slot's section, BAD_STATE for any other. -/
def Obligations.ReleaseSectionGivesBackAPossession : Prop :=
  ∀ (tag n : Byte) (x : SectionRec) (s : State), tag ≠ 0 → s.p60.turnOf ⟨tag, 0x19, [n]⟩ →
    s.p60.hasSection n x →
    (∀ h, x.occ.holding? = some h → h.owner = .possession → h.releasePending = false →
      2000 ≤ s.p60.elapsed h.since →
      s.serves (.releaseSection tag n) ⟨tag, 0x19, [n]⟩
        (((s.p60.withHead ⟨tag, 0x19, [n]⟩).withSection n (fun x =>
          { x with occ := .releasing 3000 })).reviseWaits n.toNat .none) [0]) ∧
    (∀ h, x.occ.holding? = some h → h.owner = .possession → h.releasePending = false →
      s.p60.elapsed h.since < 2000 →
      s.serves (.releaseSection tag n) ⟨tag, 0x19, [n]⟩
        ((s.p60.withHead ⟨tag, 0x19, [n]⟩).withSection n (fun x =>
          { x with occ := x.occ.mapHolding (fun h => { h with releasePending := true }) })) [1]) ∧
    (∀ h, x.occ.holding? = some h → h.owner = .possession → h.releasePending = true →
      s.serves (.releaseSection tag n) ⟨tag, 0x19, [n]⟩ (s.p60.withHead ⟨tag, 0x19, [n]⟩) [1]) ∧
    (x.occ = .free →
      s.serves (.releaseSection tag n) ⟨tag, 0x19, [n]⟩ (s.p60.withHead ⟨tag, 0x19, [n]⟩) [0]) ∧
    (∀ k, x.occ.owner? = some (.slot k) →
      s.refuses (.releaseSection tag n) ⟨tag, 0x19, [n]⟩ .locked []) ∧
    (x.occ = .unproven ∨ x.occ = .disturbed ∨ (∃ t, x.occ = .releasing t) →
      s.refuses (.releaseSection tag n) ⟨tag, 0x19, [n]⟩ .badState [])

/-- INHIBIT_SECTIONS and PERMIT_SECTIONS: a count outside 1..32 and the first bad number refuse the whole
list; otherwise every listed section's flag is set or cleared, and the new set begins its write before any
reply: that the flags act at once, while the write runs, is the model's reading (log 6). INHIBIT owes no hand-over
check; PERMIT owes one for each listed section that was inhibited and is FREE with waiters, once, in the list's
order, and they are made with the command. -/
def Obligations.InhibitAndPermitMarkTheList : Prop :=
  ∀ (tag : Byte) (l : List Byte) (on : Bool) (c : Instr) (r : Request) (s : State), tag ≠ 0 →
    l.length ≤ 247 →
    (c, r) = (if on then (.inhibitSections tag l, ⟨tag, 0x1A, b1 l.length ++ l⟩)
      else (.permitSections tag l, ⟨tag, 0x1B, b1 l.length ++ l⟩)) →
    s.p60.turnOf r →
    (s.p60.plan?.isNone → s.refuses c r .planNotActive []) ∧
    (s.p60.plan?.isSome → (l = [] ∨ 32 < l.length) → s.refuses c r .outOfRange [0]) ∧
    (s.p60.plan?.isSome → 1 ≤ l.length → l.length ≤ 32 →
      (∀ (a b : List Byte) (n : Byte), l = a ++ n :: b → (∀ m ∈ a, ∃ x, s.p60.hasSection m x) →
        ((n = 0 ∨ 240 < n.toNat) → s.refuses c r .outOfRange (b1 (a.length + 1))) ∧
        (1 ≤ n.toNat → n.toNat ≤ 240 → s.p60.section? n.toNat = none →
          s.refuses c r .notInPlan (b1 (a.length + 1)))) ∧
      ((∀ m ∈ l, ∃ x, s.p60.hasSection m x) →
        let freed : Nat → Bool := fun n => match s.p60.section? n with
          | some x => x.inhibit && x.occ == .free && !x.waiters.isEmpty
          | none => false
        ∃ e changed, s.takesAndSettles c e ∧
          e.sections = s.p60.sections.map (fun x =>
            if BitVec.ofNat 8 x.num ∈ l ∧ x.num < 256 then { x with inhibit := on } else x) ∧
          changed = (s.p60.sections.filter (fun x =>
            decide (BitVec.ofNat 8 x.num ∈ l ∧ x.num < 256 ∧ x.inhibit ≠ on))).length ∧
          e.writes = s.p60.writes ++ [.inhibits ((e.sections.filter (·.inhibit)).map (·.num)) changed] ∧
          { e with sections := s.p60.sections, writes := s.p60.writes, tasks := [] } = s.p60.withHead r ∧
          e.tasks = if on then []
            else l.foldl (fun owed n =>
              if freed n.toNat = true ∧ n.toNat ∉ owed then owed ++ [n.toNat] else owed) []))

/-- RESET_SECTION: a DISTURBED section enters RELEASING with 3,000 ms to clear; any other is refused BAD_STATE. The
timers, their ends being the model's advance of time (log 2): the minimum hold's end lets a pending release take
effect; a clearing that ends with a CLEAR reading frees the section and owes it a hand-over check, and one that ends
with any other disturbs it; the proving time's end takes the section from its owner and disturbs it unless its
reading is CLEAR; the entry confirmation's end makes a RESERVED section OCCUPIED with its discrepancy flag set, no two
sections having one number (O7). -/
def Obligations.ResetSectionAndSectionTimers : Prop :=
  (∀ (tag n : Byte) (x : SectionRec) (s : State), tag ≠ 0 → s.p60.turnOf ⟨tag, 0x1C, [n]⟩ →
    s.p60.hasSection n x →
    (x.occ = .disturbed →
      s.serves (.resetSection tag n) ⟨tag, 0x1C, [n]⟩
        ((s.p60.withHead ⟨tag, 0x1C, [n]⟩).withSection n (fun x => { x with occ := .releasing 3000 })) []) ∧
    (x.occ ≠ .disturbed → s.refuses (.resetSection tag n) ⟨tag, 0x1C, [n]⟩ .badState [])) ∧
  (∀ (n : Byte) (x : SectionRec) (s : State), s.p60.section? n.toNat = some x →
    (∀ h, x.occ.holding? = some h → h.releasePending = true →
      s.takes (.minimumHoldEnd n)
        (((s.p60.advance (2000 - s.p60.elapsed h.since)).begun.withSection n (fun x =>
          { x with occ := .releasing 3000 })).reviseWaits n.toNat .none)) ∧
    (∀ t, x.occ = .releasing t → x.reading = .clear →
      s.takesAndSettles (.clearingTimerExpiry n)
        { (s.p60.advance t).begun.withSection n (fun x => { x with occ := .free, discrepancy := false }) with
          tasks := if x.waiters = [] then [] else [n.toNat] }) ∧
    (∀ t, x.occ = .releasing t → x.reading ≠ .clear →
      s.takes (.clearingTimerExpiry n)
        (((s.p60.advance t).begun.withSection n (fun x => { x with occ := .disturbed })).raise
          .sectionDisturbed)) ∧
    (∀ h t, x.occ.holding? = some h → h.proving = some t → x.reading ≠ .clear →
      s.takes (.provingTimerExpiry n)
        ((((s.p60.advance t).begun.withSection n (fun x => { x with occ := .disturbed })).raise
          .sectionDisturbed).reviseWaits n.toNat .none)) ∧
    (∀ h t, x.occ.holding? = some h → h.proving = some t → x.reading = .clear →
      s.takes (.provingTimerExpiry n)
        ((s.p60.advance t).begun.withSection n (fun x =>
          { x with occ := x.occ.mapHolding (fun h => { h with proving := none }) }))) ∧
    (∀ h t, s.p60.sectionsDistinct → x.occ = .reserved h (some t) →
      ∃ p, s.takes (.entryConfirmationExpiry n) (if x.discrepancy then p else p.raise .sectionDisturbed) ∧
        p = (s.p60.advance t).begun.withSection n (fun x =>
          { x with
            occ := match x.occ with
              | .reserved h _ => .occupied h
              | o => o
            discrepancy := true })))

/-- QUERY_SECTION returns the section's record, every field of R42 in order, QUERY_TURNOUT the turnout's (R58),
QUERY_PAD the pad's (R156), QUERY_TELESCOPE the telescope's (R157; two live FETCH orders that name one telescope:
log 56), and QUERY_HOLDS the holds, the feeders, the stops and the silence timer (R190; the codes of two named levels:
log 15; a slot's feeders by ascending number: log 26; a held set in the order of joining: log 58). They change
nothing. -/
def Obligations.QueriesOfTheTrackAndHolds : Prop :=
  (∀ (tag n : Byte) (x : SectionRec) (s : State), tag ≠ 0 → s.p60.turnOf ⟨tag, 0x1D, [n]⟩ →
    s.p60.transferring = false → s.p60.hasSection n x →
    exec (.querySection tag n) s = .next (s.replied ⟨tag, 0x1D, [n]⟩ .ok
      ([n] ++ b1 x.occ.code ++ b1 (ownerCode x.occ.owner?) ++
        (match x.occ.holding? with
          | none => [0, 0, 0, 0, 0, 0] ++ bFlags [false, x.inhibit, x.discrepancy, false]
          | some h =>
            b1 (sideCode h.entry) ++ b1 (legCode h.leg) ++ b4 (s.p60.elapsed h.since) ++
              bFlags [h.autoRelease, x.inhibit, x.discrepancy, h.releasePending]) ++
        b1 x.reading.code ++
        (match x.occ.holding? with
          | none => b4 0
          | some h => b4 (if h.releasePending then 2000 - s.p60.elapsed h.since else 0)) ++
        (match x.occ with
          | .releasing t => b4 t
          | _ => b4 0) ++
        (match x.occ.holding? with
          | none => b4 0
          | some h => b4 (h.proving.getD 0)) ++
        bList (x.waiters.map (fun k => b1 (slotNo k)))))) ∧
  (∀ (tag t : Byte) (x : TurnoutRec) (s : State), tag ≠ 0 → s.p60.turnOf ⟨tag, 0x22, [t]⟩ →
    s.p60.transferring = false → s.p60.hasTurnout t x →
    exec (.queryTurnout tag t) s = .next (s.replied ⟨tag, 0x22, [t]⟩ .ok
      ([t] ++ b1 x.sec ++ b1 x.state.code ++ bFlags [(s.p60.owner? x.sec).isSome] ++
        b1 (ownerCode (s.p60.owner? x.sec)) ++ b1 x.last.code ++
        (match s.p60.throwQueue.find? (fun e => e.1 == t.toNat) with
          | none => b1 0
          | some e => b1 e.2.code) ++
        b1 (indexIn t.toNat (s.p60.throwQueue.map (·.1))) ++
        (match x.state with
          | .moving l sl left => b1 sl.code ++ b1 l.code ++ b4 left
          | _ => b1 0 ++ b1 0 ++ b4 0) ++
        b1 x.retry))) ∧
  (∀ (tag n : Byte) (d : PlanPad) (x : PadRec) (s : State), tag ≠ 0 → s.p60.turnOf ⟨tag, 0x3A, [n]⟩ →
    s.p60.transferring = false → s.p60.hasPad n d → s.p60.pad? n.toNat = some x →
    exec (.queryPad tag n) s = .next (s.replied ⟨tag, 0x3A, [n]⟩ .ok
      ([n] ++ b1 d.spur ++ b1 ((s.p60.holder? n.toNat).getD 0) ++ b1 x.clamp.code ++
        b4 ((x.lastReport.map s.p60.elapsed).getD 0) ++
        b2 (((s.p60.orders.find? (fun o => o.pad == n.toNat && o.promise)).map (·.id)).getD 0) ++
        bFlags [(s.p60.holder? n.toNat).isSome && x.clamp != .locked] ++
        (match s.p60.orders.find? (fun o => o.pad == n.toNat && (o.state.stage?.any Stage.isDocking)) with
          | none => b2 0 ++ b1 0 ++ b1 0 ++ b1 0 ++ b1 0 ++ b1 1 ++ b4 0
          | some o =>
            b2 o.id ++ b1 (o.slot.val + 1) ++ b1 (stageCode o.state.stage?) ++
              b1 (s.p60.slot o.slot).docking.awaiting.code ++ b1 (s.p60.slot o.slot).docking.due.code ++
              b1 (s.p60.slot o.slot).docking.timer.code ++ b4 (s.p60.slot o.slot).docking.timer.left)))) ∧
  (∀ (tag t : Byte) (s : State), tag ≠ 0 → s.p60.turnOf ⟨tag, 0x3B, [t]⟩ → s.p60.transferring = false →
    (t = 0 ∨ 64 < t.toNat →
      exec (.queryTelescope tag t) s = .next (s.replied ⟨tag, 0x3B, [t]⟩ .outOfRange [])) ∧
    (1 ≤ t.toNat → t.toNat ≤ 64 →
      exec (.queryTelescope tag t) s = .next (s.replied ⟨tag, 0x3B, [t]⟩ .ok
        ((match s.p60.location t.toNat with
          | .pad n => b1 1 ++ b1 n ++ b1 0 ++ b4 0 ++ b1 0
          | .transporter i =>
            b1 2 ++ b1 0 ++ [i.maker] ++ b4 i.serial.toNat ++
              b1 ((([0, 1, 2, 3, 4, 5] : List SlotId).find?
                (fun k => (s.p60.slot k).ident == some i)).elim 0 (fun k => k.val + 1))
          | .unplaced => b1 3 ++ b1 0 ++ b1 0 ++ b4 0 ++ b1 0) ++
        b2 (((s.p60.orders.find? (fun o => o.telescope == t.toNat && o.state.live)).map (·.id)).getD 0))))) ∧
  (∀ (tag : Byte) (s : State), tag ≠ 0 → s.p60.turnOf ⟨tag, 0x4B, []⟩ → s.p60.transferring = false →
    let level : Bool → List Byte := fun x => b1 (if x then 1 else 2)
    let since : Option Word → List Byte := fun t => b4 ((t.map s.p60.elapsed).getD 0)
    exec (.queryHolds tag) s = .next (s.replied ⟨tag, 0x4B, []⟩ .ok
      (level s.p60.windInput ++ b1 s.p60.ladenPolicy.code ++ b1 s.p60.unladenPolicy.code ++
        ([0, 1, 2, 3, 4, 5] : List SlotId).flatMap (fun k =>
          let on := ([0, 1, 2, 3] : List FeederId).filter (fun f => (s.p60.feeder f).held.contains k)
          bFlags [(s.p60.slot k).windHold.isSome] ++ b1 on.length ++ on.flatMap (fun f => b1 (f.val + 1)) ++
            bFlags [(s.p60.slot k).windHold == some .stopNow || !on.isEmpty]) ++
        ([0, 1, 2, 3] : List FeederId).flatMap (fun f =>
          let x := s.p60.feeder f
          b1 x.state.code ++ level x.input ++ level (x.state == .enabled && !s.p60.estop) ++ b1 x.trips ++
            b4 (if x.trips = 0 then 0 else s.p60.elapsed x.firstTrip) ++
            b4 (match x.state with
              | .restoring n => n
              | .starting n => n
              | _ => 0) ++
            b1 x.held.length ++ x.held.flatMap (fun k => b1 (k.val + 1))) ++
        level s.p60.estopInput ++ level (!s.p60.estop) ++ b1 s.p60.silence.state.code ++
        b4 s.p60.silence.applied ++ b4 (s.p60.silence.pending.getD 0) ++ b4 s.p60.silence.remaining ++
        since s.p60.silence.lastKeepalive)))
/-! ## Screening -/

/-- What is refused of a request that names a section, turnout, pad, slot, order or telescope: PLAN_NOT_ACTIVE
unless the plan is ACTIVE, then OUT_OF_RANGE for a number outside its range, then NOT_IN_PLAN for one that the plan
does not define; OUT_OF_RANGE for a slot outside 1..6; UNKNOWN_ID for an id not in the list; and for PLACE_TELESCOPE
(which waits while a transfer is written: log 52) the refusals that come before the case of no change. -/
def Obligations.RequestsAreScreened : Prop :=
  (∀ (tag n : Byte) (s : State) (c : Instr) (r : Request) (top : Nat) (known : Bool), tag ≠ 0 →
    (c, r, top, known) ∈ ([
      (.possessSection tag n, ⟨tag, 0x18, [n]⟩, 240, (s.p60.section? n.toNat).isSome),
      (.releaseSection tag n, ⟨tag, 0x19, [n]⟩, 240, (s.p60.section? n.toNat).isSome),
      (.resetSection tag n, ⟨tag, 0x1C, [n]⟩, 240, (s.p60.section? n.toNat).isSome),
      (.resetTurnout tag n, ⟨tag, 0x21, [n]⟩, 48, (s.p60.turnout? n.toNat).isSome),
      (.lockPad tag n, ⟨tag, 0x38, [n]⟩, 160, (s.p60.planPad? n.toNat).isSome)] :
        List (Instr × Request × Nat × Bool)) →
    s.p60.turnOf r →
    (s.p60.plan?.isNone → s.refuses c r .planNotActive []) ∧
    (s.p60.plan?.isSome → n = 0 ∨ top < n.toNat → s.refuses c r .outOfRange []) ∧
    (s.p60.plan?.isSome → 1 ≤ n.toNat → n.toNat ≤ top → known = false → s.refuses c r .notInPlan [])) ∧
  (∀ (tag n : Byte) (s : State) (c : Instr) (r : Request) (top : Nat) (known : Bool), tag ≠ 0 →
    (c, r, top, known) ∈ ([
      (.querySection tag n, ⟨tag, 0x1D, [n]⟩, 240, (s.p60.section? n.toNat).isSome),
      (.queryTurnout tag n, ⟨tag, 0x22, [n]⟩, 48, (s.p60.turnout? n.toNat).isSome),
      (.queryPad tag n, ⟨tag, 0x3A, [n]⟩, 160, (s.p60.planPad? n.toNat).isSome)] :
        List (Instr × Request × Nat × Bool)) →
    s.p60.turnOf r → s.p60.transferring = false →
    (s.p60.plan?.isNone → exec c s = .next (s.replied r .planNotActive [])) ∧
    (s.p60.plan?.isSome → n = 0 ∨ top < n.toNat → exec c s = .next (s.replied r .outOfRange [])) ∧
    (s.p60.plan?.isSome → 1 ≤ n.toNat → n.toNat ≤ top → known = false →
      exec c s = .next (s.replied r .notInPlan []))) ∧
  (∀ (tag t b : Byte) (s : State), tag ≠ 0 → s.p60.turnOf ⟨tag, 0x20, [t, b]⟩ →
    (s.p60.plan?.isNone → s.refuses (.throwTurnout tag t b) ⟨tag, 0x20, [t, b]⟩ .planNotActive []) ∧
    (s.p60.plan?.isSome → t = 0 ∨ 48 < t.toNat ∨ (b ≠ 1 ∧ b ≠ 2) →
      s.refuses (.throwTurnout tag t b) ⟨tag, 0x20, [t, b]⟩ .outOfRange []) ∧
    (s.p60.plan?.isSome → 1 ≤ t.toNat → t.toNat ≤ 48 → b = 1 ∨ b = 2 → s.p60.turnout? t.toNat = none →
      s.refuses (.throwTurnout tag t b) ⟨tag, 0x20, [t, b]⟩ .notInPlan [])) ∧
  (∀ (tag n : Byte) (s : State), tag ≠ 0 → n = 0 ∨ 6 < n.toNat →
    (s.p60.turnOf ⟨tag, 0x45, [n]⟩ → s.refuses (.releaseSlot tag n) ⟨tag, 0x45, [n]⟩ .outOfRange []) ∧
    (s.p60.turnOf ⟨tag, 0x46, [n]⟩ → s.refuses (.clearSlotFault tag n) ⟨tag, 0x46, [n]⟩ .outOfRange [])) ∧
  (∀ (tag : Byte) (id : Half) (s : State), tag ≠ 0 → s.p60.order? id.toNat = none →
    (s.p60.turnOf ⟨tag, 0x2D, b2 id.toNat⟩ →
      s.refuses (.stopOrder tag id) ⟨tag, 0x2D, b2 id.toNat⟩ .unknownId []) ∧
    (s.p60.turnOf ⟨tag, 0x2E, b2 id.toNat⟩ →
      s.refuses (.resumeOrder tag id) ⟨tag, 0x2E, b2 id.toNat⟩ .unknownId [])) ∧
  (∀ (tag t : Byte) (target : PlaceTarget) (s : State), tag ≠ 0 → target.wf = true →
    let r : Request := ⟨tag, 0x39, [t] ++ targetBytes target⟩
    let c := Instr.placeTelescope tag t target
    let inRange : Prop := 1 ≤ t.toNat ∧ t.toNat ≤ 64 ∧ match target with
      | .pad n => 1 ≤ n.toNat ∧ n.toNat ≤ 160
      | .transporter n => 1 ≤ n.toNat ∧ n.toNat ≤ 6
      | .unplaced => True
      | .other _ => False
    s.p60.transferring = false →
    let named : Prop := (∃ o ∈ s.p60.orders, o.state.live = true ∧ o.telescope = t.toNat) ∨
      s.p60.busyWith (s.p60.location t.toNat) = true
    s.p60.turnOf r →
    (¬ inRange → s.refuses c r .outOfRange []) ∧
    (∀ n, target = .pad n → inRange → s.p60.plan?.isNone → s.refuses c r .planNotActive []) ∧
    (∀ n, target = .pad n → inRange → s.p60.plan?.isSome → s.p60.planPad? n.toNat = none →
      s.refuses c r .notInPlan []) ∧
    (∀ n, target = .pad n → inRange → (s.p60.planPad? n.toNat).isSome → named →
      s.refuses c r .badState []) ∧
    (target = .unplaced → inRange → named → s.refuses c r .badState []) ∧
    (∀ n k, target = .transporter n → inRange → slotOf n = some k →
      named ∨ (s.p60.liveOrder? k).isSome ∨ (s.p60.slot k).ident = none →
      s.refuses c r .badState []))

/-! ## Field units -/

/-- A detector's report: its reading is noted whatever the state; OCCUPIED disturbs a section that nobody owns,
makes a possession's section OCCUPIED and a slot's too, with a section-entry event; CLEAR ends the proving time,
frees an UNPROVEN section and returns an OCCUPIED one that its owner has not left to RESERVED (one that its owner
has left, its auto-release flag clear, as well: the model's choice, log 43), leaves a slot's RESERVED one that is not
behind it RESERVED, or, under its owner, marks the discrepancy, no two sections having one number (O7). -/
def Obligations.DetectorReportsDriveTheSection : Prop :=
  ∀ (address tag n : Byte) (e : Exchange) (u : FieldUnit) (x : SectionRec) (s : State),
    s.p60.exchangeWith address tag .detector e u → u.num = n.toNat → s.p60.section? n.toNat = some x →
    (x.occ = .unproven ∨ x.occ = .free ∨ (∃ t, x.occ = .releasing t) →
      s.takes (.detectorReport address tag .occupied)
        (((s.p60.afterFieldReply e).withSection n (fun x =>
          { x with reading := .occupied, occ := .disturbed })).raise .sectionDisturbed)) ∧
    (x.occ = .disturbed ∨ (∃ h, x.occ = .occupied h) →
      s.takes (.detectorReport address tag .occupied)
        ((s.p60.afterFieldReply e).withSection n (fun x => { x with reading := .occupied }))) ∧
    (∀ h c, x.occ = .reserved h c → h.owner = .possession →
      s.takes (.detectorReport address tag .occupied)
        ((s.p60.afterFieldReply e).withSection n (fun x =>
          { x with reading := .occupied, occ := .occupied h }))) ∧
    (∀ h c k, x.occ = .reserved h c → h.owner = .slot k →
      s.takesAndSettles (.detectorReport address tag .occupied)
        (((s.p60.afterFieldReply e).withSection n (fun x =>
          { x with reading := .occupied, occ := .occupied h })).sectionEntry k n.toNat)) ∧
    (x.occ = .unproven →
      s.takesAndSettles (.detectorReport address tag .clear)
        { (s.p60.afterFieldReply e).withSection n (fun x =>
            { x with reading := .clear, occ := .free, discrepancy := false }) with
          tasks := if x.waiters = [] then [] else [n.toNat] }) ∧
    (x.occ = .free ∨ x.occ = .disturbed ∨ (∃ t, x.occ = .releasing t) ∨
        (∃ h c, x.occ = .reserved h c ∧ h.owner = .possession) →
      s.takes (.detectorReport address tag .clear)
        ((s.p60.afterFieldReply e).withSection n (fun x =>
          { x with reading := .clear, occ := x.occ.mapHolding (fun h => { h with proving := none }) }))) ∧
    (∀ h, x.occ = .occupied h → h.owner = .possession →
      s.takes (.detectorReport address tag .clear)
        ((s.p60.afterFieldReply e).withSection n (fun x =>
          { x with reading := .clear, occ := .reserved { h with proving := none } none }))) ∧
    (∀ h k, s.p60.sectionsDistinct → x.occ = .occupied h → h.owner = .slot k →
      s.p60.overlaps k n.toNat = true →
      ∃ p, s.takes (.detectorReport address tag .clear)
          (if x.discrepancy then p else p.raise .sectionDisturbed) ∧
        p = (s.p60.afterFieldReply e).withSection n (fun x =>
          { x with reading := .clear, discrepancy := true, occ := .occupied { h with proving := none } })) ∧
    (∀ h k, x.occ.holding? = some h → h.owner = .slot k →
      let behind : Prop := h.autoRelease = true ∧ s.p60.overlaps k n.toNat = false ∧
        ∃ o, s.p60.liveOrder? k = some o ∧
          if indexIn n.toNat o.route = 0 then indexIn (s.p60.slot k).rear.sec.toNat o.route ≠ 0
          else indexIn n.toNat o.route < (s.p60.slot k).progress.rearIndex
      ¬ behind →
        (x.occ = .occupied h → s.p60.overlaps k n.toNat = false →
          s.takes (.detectorReport address tag .clear) ((s.p60.afterFieldReply e).withSection n (fun x =>
            { x with reading := .clear, occ := .reserved { h with proving := none } none }))) ∧
        (∀ c, x.occ = .reserved h c →
          s.takes (.detectorReport address tag .clear) ((s.p60.afterFieldReply e).withSection n (fun x =>
            { x with reading := .clear, occ := x.occ.mapHolding (fun h => { h with proving := none }) }))))

/-- A section-entry event of the next route section of a slot's ACTIVE or SUSPENDED order moves the route index on
and ends the slot's wait, before a pass follows where one may be made; for any other section it does nothing. A
deadlock record stands exactly while each member waits on its recorded section and on the next member, the last on
the first. A wait on a slot that closes a cycle, of 2 to 6 slots, is recorded with the cycle's slots in chain order
and DEADLOCK raised; a wait that closes none, or is on no slot, is only noted. A change of a section's owner begins the
wait of each of its waiters anew, in queue order, each wait on a slot with its own search (R22, R90). -/
def Obligations.RouteSettingMovesOn : Prop :=
  (∀ (k : SlotId) (n : Nat) (o : Order) (s : P60), s.liveOrder? k = some o →
    (o.route[o.routeIndex]? ≠ some n → s.sectionEntry k n = s) ∧
    (o.route[o.routeIndex]? = some n → ∃ t : P60, s.sectionEntry k n = t.passEvent k ∧
      t.orders = s.orders.map (fun x => if x.id = o.id then { x with routeIndex := o.routeIndex + 1 } else x) ∧
      (t.slot k).progress.wait = none ∧
      (t.slot k).progress.reach =
        if (s.slot k).progress.reach < o.routeIndex + 1 then 0 else (s.slot k).progress.reach)) ∧
  (∀ (l : List (SlotId × Nat)) (t : Word) (s : P60),
    s.deadlockStands ⟨l, t⟩ = true ↔
      ∀ i m next, l[i]? = some m → l[(i + 1) % l.length]? = some next →
        ∃ w, (s.slot m.1).progress.wait = some w ∧ w.sec = m.2 ∧ w.on = .slot next.1) ∧
  (∀ (k j : SlotId) (n : Nat) (s : P60), k ≠ j →
    let waits := s.withSlot k (fun x =>
      { x with progress := { x.progress with wait := some ⟨n, .slot j, s.clock⟩ } })
    let closes : List (SlotId × Wait) → Prop := fun l => l.length ≤ 5 ∧ k ∉ l.map (·.1) ∧ l.head?.map (·.1) = some j ∧
      ∀ i m w, l[i]? = some (m, w) → (s.slot m).progress.wait = some w ∧
        w.on = .slot (((l.map (·.1))[i + 1]?).getD k)
    (∀ l, closes l → s.beginWait k n (.slot j) =
      P60.raise { waits with deadlock := some ⟨(k, n) :: l.map (fun m => (m.1, m.2.sec)), s.clock⟩ } .deadlock) ∧
    ((∀ l, ¬ closes l) → s.beginWait k n (.slot j) = waits)) ∧
  (∀ (k : SlotId) (n : Nat) (on : WaitOn) (s : P60), (∀ j, on ≠ .slot j) →
    s.beginWait k n on = s.withSlot k (fun x =>
      { x with progress := { x.progress with wait := some ⟨n, on, s.clock⟩ } })) ∧
  (∀ (n : Nat) (on : WaitOn) (s : P60),
    (s.section? n = none → s.reviseWaits n on = s) ∧
    (∀ x, s.section? n = some x →
      s.reviseWaits n on = x.waiters.foldl (fun p k => p.beginWait k n on) s ∧
      ∀ k, ((s.reviseWaits n on).slot k).progress.wait =
        if k ∈ x.waiters then some ⟨n, on, s.clock⟩ else (s.slot k).progress.wait))

/-- A turnout's report: in a throw, the leg commanded ends it, frees the throw slot and has the arbiter consulted,
before the hand-over check that is owed (the model's choice, log 45); out of one and unlocked, the state follows the
report; a locked turnout that leaves its leg is an unrequested change: it is UNDETECTED, BRAKE is asked for each slot
whose authority includes the section, by slot number (log 26), the section is DISTURBED, its waiters waiting on none,
and the owner's run loses it (R93). No slot asked that has an authority, or no run, is left with its authority GIVEN,
and BRAKE stands in its motion place (a run goes with an authority; in a state that no run reaches it may not). A
slot's authority includes the sections that it overlaps, and those of its route from its rear's to its end of
authority's (R55; a rear off the route: the model's choice, log 47). -/
def Obligations.TurnoutReportsDriveTheTurnout : Prop :=
  (∀ (k : SlotId) (n : Nat) (s : P60),
    (s.liveOrder? k = none → s.loseFromRun k n = s) ∧
    (∀ o, s.liveOrder? k = some o →
      let i := indexIn n o.route
      let inRun : Prop := o.routeIndex ≤ i ∧ 1 ≤ i ∧ i ≤ (s.slot k).progress.reach
      (inRun → s.loseFromRun k n = s.lowerReach k (if i - 1 < o.routeIndex then 0 else i - 1)) ∧
      (¬ inRun → s.loseFromRun k n = s))) ∧
  (∀ (k : SlotId) (n : Nat) (s : P60),
    let lies : Order → Eoa → Prop := fun o e => indexIn n o.route ≠ 0 ∧
      indexIn (s.slot k).rear.sec.toNat o.route ≤ indexIn n o.route ∧ indexIn n o.route ≤ indexIn e.sec o.route
    s.authorityIncludes k n = true ↔
      (∃ a b, (s.slot k).overlap = some (a, b) ∧ (n = a ∨ n = b)) ∨
      ∃ o e, s.liveOrder? k = some o ∧
        ((s.slot k).authority.state = .given e ∨ (s.slot k).authority.state = .braked e) ∧ lies o e) ∧
  (∀ (address tag t : Byte) (v : TurnoutValue) (e : Exchange) (u : FieldUnit) (x : TurnoutRec) (s : State),
    s.p60.exchangeWith address tag .turnout e u → u.num = t.toNat → s.p60.turnout? t.toNat = some x →
    let noted : P60 := { s.p60.afterFieldReply e with
      turnouts := s.p60.turnouts.map (fun r =>
        if r.num = t.toNat then { r with last := .report v } else r) }
    let become : TurnoutState → P60 := fun st => { noted with
      turnouts := noted.turnouts.map (fun r => if r.num = t.toNat then { r with state := st } else r) }
    let owed : List Nat := match s.p60.section? x.sec with
      | some r => if r.waiters = [] then [] else [x.sec]
      | none => []
    (∀ l sl left, x.state = .moving l sl left →
      (legReported v = some l →
        s.takesAndSettles (.turnoutReport address tag v) { become (.at l) with tasks := owed }.arbiter) ∧
      (legReported v ≠ some l → s.takes (.turnoutReport address tag v) noted)) ∧
    (∀ l, x.state = .at l → legReported v = some l → s.takes (.turnoutReport address tag v) noted) ∧
    (∀ l, x.state = .at l → s.p60.locked x = false → legReported v = some l.other →
      s.takesAndSettles (.turnoutReport address tag v) { become (.at l.other) with tasks := owed }) ∧
    (∀ l, x.state = .at l → s.p60.locked x = false → legReported v = none →
      s.takes (.turnoutReport address tag v) (become .undetected)) ∧
    (∀ l, x.state = .undetected → legReported v = some l →
      s.takesAndSettles (.turnoutReport address tag v) { become (.at l) with tasks := owed }) ∧
    (x.state = .failed → s.takes (.turnoutReport address tag v) noted) ∧
    (x.state = .undetected → legReported v = none → s.p60.locked x = false ∨ v = .noDetection →
      s.takes (.turnoutReport address tag v) noted) ∧
    ((∃ l, x.state = .at l ∧ legReported v ≠ some l) ∨ (x.state = .undetected ∧ v = .moving) →
      s.p60.locked x = true →
      let braked := (([0, 1, 2, 3, 4, 5] : List SlotId).filter (fun k =>
        s.p60.authorityIncludes k x.sec)).foldl P60.brakeRequest (become .undetected)
      let lost := P60.reviseWaits (P60.raise { braked with
        sections := braked.sections.map (fun r => if r.num = x.sec then { r with occ := .disturbed } else r) }
        .sectionDisturbed) x.sec .none
      ∃ p, s.takesAndSettles (.turnoutReport address tag v) p ∧
        (∀ k, s.p60.owner? x.sec = some (.slot k) → p = lost.loseFromRun k x.sec) ∧
        (s.p60.owner? x.sec = some .possession → p = lost) ∧
        p.turnouts = (become .undetected).turnouts ∧
        (p.section? x.sec).map (·.occ) = some .disturbed ∧
        ∀ k, s.p60.authorityIncludes k x.sec = true →
          (s.p60.slot k).authority.state ≠ .none ∨ (s.p60.slot k).progress.reach = 0 →
          (∀ e, (p.slot k).authority.state ≠ .given e) ∧
            ((s.p60.slot k).ident.isSome → (s.p60.slot k).peer.isSome → (s.p60.slot k).status ≠ .lost →
              ((p.slot k).peer.bind (·.motion)).map (·.msg) = some .brake)))

/-- A pad clamp's report: the clamp state and the time of the report are noted; UNLOCKED and LOCKED end the
stage that awaits them at the pad once its command has been transmitted, LOCKED finishing the order DONE;
FAULT fails the order in docking there, with PAD_FAULT. The order finished is the slot's ACTIVE or SUSPENDED one: it has
that state and no promise, and what else its end does is as every finish (MovementIsJudgedAtStandstill). -/
def Obligations.ClampReportsDriveThePad : Prop :=
  (∀ (address tag n : Byte) (v : ClampValue) (e : Exchange) (u : FieldUnit) (s : State),
    s.p60.exchangeWith address tag .pad e u → u.num = n.toNat →
    let noted : P60 := { s.p60.afterFieldReply e with
      pads := s.p60.pads.map (fun r =>
        if r.num = n.toNat then
          { r with
            clamp := match v with
              | .locked => .locked
              | .unlocked => .unlocked
              | .fault => .fault
            lastReport := some s.p60.clock }
        else r) }
    ((∀ k o g c, s.p60.activeOrder? k = some (o, g, c) → o.pad = n.toNat → g.isDocking = false) →
      s.takes (.clampReport address tag v) noted) ∧
    (∀ k, noted.dockingAt? n.toNat = some k →
      (v = .fault → s.takesAndSettles (.clampReport address tag v) (noted.finishLive k (.failed .padFault))) ∧
      (v = .locked → (s.p60.slot k).docking.awaiting = .locked → (s.p60.slot k).docking.transmitted = true →
        s.takesAndSettles (.clampReport address tag v)
          ((noted.withSlot k (fun x => { x with docking := x.docking.halt })).finishLive k .done)) ∧
      (v = .unlocked → (s.p60.slot k).docking.awaiting = .unlocked →
        (s.p60.slot k).docking.transmitted = true →
        s.takesAndSettles (.clampReport address tag v)
          ((noted.withSlot k (fun x => { x with docking := x.docking.halt })).liftOrWait k)))) ∧
  (∀ (k : SlotId) (st : OrderState) (s : P60),
    (s.liveOrder? k = none → s.finishLive k st = s) ∧
    (∀ o, s.liveOrder? k = some o → s.finishLive k st = s.finishOrder o st ∧
      (s.finishLive k st).orders = s.orders.map (fun x =>
        if x.id = o.id then { x with state := st, promise := false } else x)))

/-- The field link: with the line free an exchange begins with the first waiting command, then with the first unit
that a running sweep has not swept, then with the poll that has been due longest, in a frame with the next tag; a
regular poll falls due 1,000 ms after the last; and a reply that does not come within 100 ms counts a failure, with
the message sent again, until the third ends the exchange and makes the unit silent, or at once ends it for a unit
that is silent. A sweep poll that ends sweeps its unit, and the sweep is DONE with the last. What a silence brings
(R202): of a detector, the reading SILENT and the discrepancy flag, SECTION_DISTURBED where that was clear, owned
sections and RELEASING kept and a FREE one DISTURBED (R33, R34; raised once: log 40; no two sections having one
number: O7); of a turnout machine, the end of a throw, UNDETECTED, with the arbiter consulted, nothing more for one
UNDETECTED or FAILED, and, locked, an unrequested change (R54 to R56); of a pad clamp, UNKNOWN (R140). The moment a
timer ends is the model's advance of time (log 2). -/
def Obligations.FieldExchangesRun : Prop :=
  (∀ (a : Nat) (m : FieldMsg) (rest : List (Nat × FieldMsg)) (s : State), s.p60.exchange = none →
    s.p60.commands = (a, m) :: rest →
    ∃ p, exec .fieldExchangeBegin s = .next { s with p60 := p } ∧ p.commands = rest ∧
      p.exchange = some ⟨a, m, nextTag s.p60.fieldTag, 100, false⟩ ∧ p.fieldTag = nextTag s.p60.fieldTag ∧
      p.out = [fieldFrame a (nextTag s.p60.fieldTag) m] ∧ p.sections = s.p60.sections ∧
      p.turnouts = s.p60.turnouts ∧ p.orders = s.p60.orders) ∧
  (∀ (a b : List FieldUnit) (u : FieldUnit) (sweep : Bool) (s : State), s.p60.exchange = none →
    s.p60.commands = [] → s.p60.units = a ++ u :: b →
    (sweep = true ∧ s.p60.sweep = .running ∧ u.swept = false ∧ (∀ v ∈ a, v.swept = true)) ∨
      (sweep = false ∧ (s.p60.sweep = .running → ∀ v ∈ s.p60.units, v.swept = true) ∧
        ∃ t, u.dueSince = some t ∧
          (∀ v ∈ a, ∀ t', v.dueSince = some t' → s.p60.elapsed t' < s.p60.elapsed t) ∧
          (∀ v ∈ b, ∀ t', v.dueSince = some t' → s.p60.elapsed t' ≤ s.p60.elapsed t)) →
    exec .fieldExchangeBegin s = .next { s with p60 := { s.p60 with
      exchange := some ⟨u.address, .poll, nextTag s.p60.fieldTag, 100, sweep⟩
      fieldTag := nextTag s.p60.fieldTag
      units := s.p60.units.map (fun v =>
        if v.address = u.address then { v with lastPoll := some s.p60.clock, dueSince := none } else v)
      out := [fieldFrame u.address (nextTag s.p60.fieldTag) .poll] } }) ∧
  (∀ s : State, s.p60.exchange.isSome ∨ (s.p60.commands = [] ∧
      (∀ v ∈ s.p60.units, v.dueSince = none ∧ (s.p60.sweep = .running → v.swept = true))) →
    exec .fieldExchangeBegin s = .next { s with p60 := { s.p60 with out := [] } }) ∧
  (∀ (address : Byte) (u : FieldUnit) (t : Word) (s : State), s.p60.unit? address.toNat = some u →
    u.lastPoll = some t → u.dueSince = none →
    u.swept = true ∨ (∃ e, s.p60.exchange = some e ∧ e.sweep = true ∧ e.address = u.address) →
    let p := (s.p60.advance (1000 - s.p60.elapsed t)).begun
    s.takes (.fieldPollDue address) { p with
      units := s.p60.units.map (fun u =>
        if u.address = address.toNat then { u with dueSince := some p.clock } else u) }) ∧
  (∀ (e : Exchange) (u : FieldUnit) (s : State), s.p60.exchange = some e → s.p60.unit? e.address = some u →
    s.p60.strangersDistinct →
    let p := (s.p60.advance e.wait).begun
    let counted := s.p60.units.map (fun u =>
      if u.address = e.address then { u with failures := u.failures + 1 } else u)
    let swept : List FieldUnit → List FieldUnit := fun l =>
      if e.sweep then l.map (fun u => if u.address = e.address then { u with swept := true } else u) else l
    let sweepOf : List FieldUnit → SweepState := fun l =>
      if e.sweep = true ∧ s.p60.sweep = .running ∧ l.all (·.swept) then .done else s.p60.sweep
    (u.failures < 2 →
      s.makes .fieldReplyTimeout { p with
        units := counted
        exchange := some { e with wait := 100 }
        out := [fieldFrame e.address e.tag e.msg] }) ∧
    (u.failures = 2 → ∃ q, s.takesAndSettles .fieldReplyTimeout q ∧ q.exchange = none ∧
      q.units = swept counted ∧ q.sweep = sweepOf (swept counted) ∧
      (u.kind = .detector → ∀ x ∈ q.sections, x.num = u.num → x.reading = .silent ∧ x.occ ≠ .free) ∧
      (u.kind = .pad → ∀ x ∈ q.pads, x.num = u.num → x.clamp = .unknown) ∧
      (u.kind = .turnout → ∀ x, q.turnout? u.num = some x → x.last = .silent)) ∧
    (u.failures = 2 →
      let ended : P60 := { p with
        units := swept counted, exchange := none, sweep := sweepOf (swept counted) }
      let settles : P60 → Prop := fun q => s.takesAndSettles .fieldReplyTimeout q
      (u.kind = .detector →
        (s.p60.section? u.num = none → settles ended) ∧
        (∀ x, s.p60.section? u.num = some x → s.p60.sectionsDistinct →
          let noted : P60 := { ended with sections := ended.sections.map (fun r =>
            if r.num = u.num then
              { r with
                reading := .silent, discrepancy := true
                occ := match r.occ with
                  | .free => .disturbed
                  | o => o }
            else r) }
          settles (if x.discrepancy then noted else noted.raise .sectionDisturbed))) ∧
      (u.kind = .turnout →
        (s.p60.turnout? u.num = none → settles ended) ∧
        (∀ x, s.p60.turnout? u.num = some x →
          let lies : (TurnoutState → TurnoutState) → P60 := fun f => { ended with
            turnouts := ended.turnouts.map (fun r =>
              if r.num = u.num then { r with last := .silent, state := f r.state } else r) }
          let undetected := lies (fun _ => .undetected)
          let braked := (([0, 1, 2, 3, 4, 5] : List SlotId).filter (fun k =>
            s.p60.authorityIncludes k x.sec)).foldl P60.brakeRequest undetected
          let lost := P60.reviseWaits (P60.raise { braked with
            sections := braked.sections.map (fun r => if r.num = x.sec then { r with occ := .disturbed } else r) }
            .sectionDisturbed) x.sec .none
          let changed := match s.p60.owner? x.sec with
            | some (.slot k) => lost.loseFromRun k x.sec
            | _ => lost
          (∀ l sl left, x.state = .moving l sl left →
            (s.p60.locked x = false → settles undetected.arbiter) ∧ (s.p60.locked x = true → settles changed.arbiter)) ∧
          (∀ l, x.state = .at l →
            (s.p60.locked x = false → settles undetected) ∧ (s.p60.locked x = true → settles changed)) ∧
          (x.state = .undetected ∨ x.state = .failed → settles (lies id)))) ∧
      (u.kind = .pad → settles { ended with pads := ended.pads.map (fun r =>
        if r.num = u.num then { r with clamp := .unknown } else r) })) ∧
    (u.failures = 3 → s.makes .fieldReplyTimeout { p with
      exchange := none, units := swept s.p60.units, sweep := sweepOf (swept s.p60.units) }))

/-- QUERY_FIELD returns the link's common fields and, for an address that is not 0, the unit's; it refuses
an address above 247 OUT_OF_RANGE, and changes nothing. -/
def Obligations.QueryFieldReturnsTheLink : Prop :=
  ∀ (tag address : Byte) (s : State), tag ≠ 0 → s.p60.turnOf ⟨tag, 0x06, [address]⟩ →
    s.p60.transferring = false →
    (247 < address.toNat →
      exec (.queryField tag address) s = .next (s.replied ⟨tag, 0x06, [address]⟩ .outOfRange [])) ∧
    (address.toNat ≤ 247 →
      exec (.queryField tag address) s = .next (s.replied ⟨tag, 0x06, [address]⟩ .ok
        (b1 s.p60.sweep.code ++ b1 s.p60.units.length ++ b1 (s.p60.units.countP (·.swept)) ++
          b1 (s.p60.units.countP (fun u => u.failures == 3)) ++ b1 s.p60.commands.length ++
          (if address = 0 then []
          else
            match s.p60.unit? address.toNat with
            | none => List.replicate 13 (0 : Byte)
            | some u =>
              b1 u.kind.code ++ b1 u.num ++ b1 u.failures ++ bFlags [u.failures == 3] ++
                b4 ((u.lastReply.map s.p60.elapsed).getD 0) ++
                b4 (match u.lastPoll, u.dueSince with
                  | some t, none =>
                    if u.swept = true ∨ (∃ e, s.p60.exchange = some e ∧ e.sweep = true ∧ e.address = u.address) then
                      1000 - s.p60.elapsed t
                    else 0
                  | _, _ => 0) ++
                (match s.p60.commands.find? (fun e => e.1 == address.toNat) with
                  | none => b1 0
                  | some c => b1 c.2.code)))))

/-! ## Turnouts -/

/-- THROW_TURNOUT is decided on the turnout's record: DONE where it lies in the leg, refused LOCKED, BAD_STATE for
FAILED and BUSY for a throw to the other leg, IN_PROGRESS for a throw to the same, and otherwise QUEUED, with the
arbiter consulted (the outcomes' codes: log 15). The arbiter takes the queue's entries in order until both slots are
held or the queue is empty: an entry of a turnout that is owned or lies in the leg is dropped, and any other takes the
first free slot, with THROW handed to the field link (sent there in its turn: log 41), 6,000 ms and the retry count 0
(R51). It never gives a throw slot that a turnout holds, where none was held twice before. The field link's command
queue: a message for a unit with an unsent entry replaces its message in place, a POLL is not queued beside one, and
any other joins the tail (R200). The throw timer's end, which is the model's advance of time (log 2): a first expiry
over a section without an owner commands the throw again with a full limit; any other fails the turnout, raises
TURNOUT_FAILED and has the arbiter consulted. RESET_TURNOUT takes a FAILED turnout to UNDETECTED and has it polled,
and is refused BAD_STATE for any other. -/
def Obligations.ThrowsAreDecidedAndTimed : Prop :=
  (∀ (tag t b : Byte) (leg : Leg) (x : TurnoutRec) (s : State), tag ≠ 0 →
    s.p60.turnOf ⟨tag, 0x20, [t, b]⟩ → s.p60.hasTurnout t x → legOf b = some leg →
    let r : Request := ⟨tag, 0x20, [t, b]⟩
    (x.state = .at leg → s.serves (.throwTurnout tag t b) r (s.p60.withHead r) [1]) ∧
    (x.state ≠ .at leg →
      (s.p60.locked x = true → s.refuses (.throwTurnout tag t b) r .locked []) ∧
      (s.p60.locked x = false →
        (x.state = .failed → s.refuses (.throwTurnout tag t b) r .badState []) ∧
        (∀ l sl left, x.state = .moving l sl left →
          (l = leg → s.serves (.throwTurnout tag t b) r (s.p60.withHead r) [3]) ∧
          (l ≠ leg → s.refuses (.throwTurnout tag t b) r .busy [])) ∧
        (x.state = .undetected ∨ x.state = .at leg.other →
          ∃ p, s.serves (.throwTurnout tag t b) r p (b1 2 ++ b1 (p.queuePlace t.toNat)) ∧
            p = P60.arbiter { s.p60.withHead r with
              throwQueue :=
                if s.p60.throwQueue.any (fun e => e.1 == t.toNat) then
                  s.p60.throwQueue.map (fun e => if e.1 = t.toNat then (t.toNat, leg) else e)
                else s.p60.throwQueue ++ [(t.toNat, leg)] })))) ∧
  (∀ s : P60, ((s.turnouts.map (·.num)).Nodup) →
    ((s.turnouts.filterMap (fun r => r.state.slot?)).Nodup) →
    ((s.arbiter.turnouts.filterMap (fun r => r.state.slot?)).Nodup)) ∧
  (∀ s : P60,
    let taken : ThrowSlot → Prop := fun sl => ∃ r ∈ s.turnouts, r.state.slot? = some sl
    (s.throwQueue = [] ∨ (taken .one ∧ taken .two) → s.arbiter = s) ∧
    (∀ t leg rest, s.throwQueue = (t, leg) :: rest → ¬ (taken .one ∧ taken .two) →
      let goesOn : P60 := { s with throwQueue := rest }
      (s.turnout? t = none → s.arbiter = goesOn.arbiter) ∧
      (∀ x, s.turnout? t = some x →
        (s.locked x = true ∨ x.state = .at leg → s.arbiter = goesOn.arbiter) ∧
        (s.locked x = false → x.state ≠ .at leg → ∀ sl, (sl = .one ∧ ¬ taken .one) ∨ (sl = .two ∧ taken .one) →
          s.arbiter = P60.arbiter (P60.commandTo { goesOn with
            turnouts := s.turnouts.map (fun r =>
              if r.num = t then { r with state := .moving leg sl 6000, retry := 0 } else r) }
            .turnout t (.throw leg)))))) ∧
  (∀ (kind : UnitKind) (n : Nat) (m : FieldMsg) (s : P60),
    let serves : FieldUnit → Prop := fun u => u.kind = kind ∧ u.num = n
    ((∀ u ∈ s.units, ¬ serves u) → s.commandTo kind n m = s) ∧
    (∀ a b u, s.units = a ++ u :: b → (∀ v ∈ a, ¬ serves v) → serves u →
      ((∀ e ∈ s.commands, e.1 ≠ u.address) →
        s.commandTo kind n m = { s with commands := s.commands ++ [(u.address, m)] }) ∧
      ((∃ e ∈ s.commands, e.1 = u.address) →
        (m = .poll → s.commandTo kind n m = s) ∧
        (m ≠ .poll → s.commandTo kind n m = { s with
          commands := s.commands.map (fun e => if e.1 = u.address then (u.address, m) else e) })))) ∧
  (∀ (t : Byte) (x : TurnoutRec) (l : Leg) (sl : ThrowSlot) (left : Nat) (s : State),
    s.p60.turnout? t.toNat = some x → x.state = .moving l sl left →
    let p := (s.p60.advance left).begun
    (x.retry = 0 → s.p60.locked x = false →
      s.takes (.throwTimerExpiry t) (P60.commandTo { p with
        turnouts := p.turnouts.map (fun r =>
          if r.num = t.toNat then { r with state := .moving l sl 6000, retry := 1 } else r) }
        .turnout t.toNat (.throw l))) ∧
    (x.retry ≠ 0 ∨ s.p60.locked x = true →
      s.takes (.throwTimerExpiry t) (P60.raise { p with
        turnouts := p.turnouts.map (fun r => if r.num = t.toNat then { r with state := .failed } else r) }
        .turnoutFailed).arbiter)) ∧
  (∀ (tag t : Byte) (x : TurnoutRec) (s : State), tag ≠ 0 → s.p60.turnOf ⟨tag, 0x21, [t]⟩ →
    s.p60.hasTurnout t x →
    (x.state = .failed →
      s.serves (.resetTurnout tag t) ⟨tag, 0x21, [t]⟩
        (P60.commandTo { s.p60.withHead ⟨tag, 0x21, [t]⟩ with
          turnouts := s.p60.turnouts.map (fun r =>
            if r.num = t.toNat then { r with state := .undetected, retry := 0 } else r) }
          .turnout t.toNat .poll) []) ∧
    (x.state ≠ .failed → s.refuses (.resetTurnout tag t) ⟨tag, 0x21, [t]⟩ .badState []))

/-! ## The order list -/

/-- INSERT_ORDERS, while no transfer is written (it waits for one: log 52): a held list, a missing plan, a count
outside 1..4, a position form of none of the three and an AFTER of an unknown id refuse the batch in that order, at
no order of it and so with the index 0 (for the first two the model's reading, log 16); then the first order that
fails one of the items, with its index (id 0 as item c: the model's reading, log 38); a batch that passes is
inserted whole at the position, its orders QUEUED, and a scan is triggered. The static route check, item by item
(R63). A route's derivation, its exit ends, entry ends and required legs, is R4's, in a plan whose sections meet at
one pair of ends each (R2, which R11's step 5 checks). The positions: before the head, after the tail, or immediately
after the order named. -/
def Obligations.InsertOrdersPutsTheBatchIn : Prop :=
  (∀ (tag : Byte) (pos : Position) (l : List OrderDesc) (s : State),
    (Instr.insertOrders tag pos l).wf = true →
    let r : Request := ⟨tag, 0x28, positionBytes pos ++ bList (l.map orderBytes)⟩
    let c := Instr.insertOrders tag pos l
    let posKnown : Prop := match pos with
      | .after id => (s.p60.order? id.toNat).isSome
      | .other _ => False
      | _ => True
    s.p60.turnOf r → s.p60.transferring = false →
    (s.p60.scanning = true → s.refuses c r .listHeld [0]) ∧
    (s.p60.scanning = false → s.p60.plan?.isNone → s.refuses c r .planNotActive [0]) ∧
    (∀ p, s.p60.scanning = false → s.p60.plan = .active p →
      (l = [] ∨ 4 < l.length → s.refuses c r .outOfRange [0]) ∧
      (1 ≤ l.length → l.length ≤ 4 →
        (∀ form, pos = .other form → s.refuses c r .outOfRange [0]) ∧
        (∀ id, pos = .after id → s.p60.order? id.toNat = none → s.refuses c r .unknownId [0]) ∧
        (posKnown → ∀ (a b : List OrderDesc) (d : OrderDesc), l = a ++ d :: b →
          (∀ (x y : List OrderDesc) (q : OrderDesc), a = x ++ q :: y → s.p60.itemsPass p x q) →
          ((s.p60.order? d.id.toNat).isSome ∨ (∃ q ∈ a, q.id = d.id) →
            s.refuses c r .duplicateId (b1 (a.length + 1))) ∧
          (s.p60.order? d.id.toNat = none → (∀ q ∈ a, q.id ≠ d.id) →
            (64 < s.p60.orders.length + a.length + 1 → s.refuses c r .listFull (b1 (a.length + 1))) ∧
            (s.p60.orders.length + a.length + 1 ≤ 64 →
              (orderKindOf d.kind = none ∨ slotOf d.slot = none →
                s.refuses c r .outOfRange (b1 (a.length + 1))) ∧
              (∀ kind slot, orderKindOf d.kind = some kind → slotOf d.slot = some slot →
                let fits : Prop :=
                  if kind = .run then d.telescope = 0 else 1 ≤ d.telescope.toNat ∧ d.telescope.toNat ≤ 64
                let refusal := routeRefusal p (d.route.map (·.toNat)) d.pad.toNat
                let promised : Prop := (s.p60.promisedTo? d.pad.toNat).isSome ∨
                  ∃ q ∈ a, orderKindOf q.kind = some .deliver ∧ q.pad = d.pad
                (d.id = 0 ∨ ¬ fits → s.refuses c r .outOfRange (b1 (a.length + 1))) ∧
                (d.id ≠ 0 → fits →
                  (∀ res, refusal = some res → s.refuses c r res (b1 (a.length + 1))) ∧
                  (refusal = none → kind = .deliver →
                    (promised → s.refuses c r .padPromised (b1 (a.length + 1))) ∧
                    (¬ promised → (s.p60.holder? d.pad.toNat).isSome →
                      s.refuses c r .badState (b1 (a.length + 1))))))))) ∧
        (posKnown → (∀ (x y : List OrderDesc) (q : OrderDesc), l = x ++ q :: y → s.p60.itemsPass p x q) →
          ∃ l', l' = placeAt pos (l.filterMap orderOfDesc) s.p60.orders ∧
            s.servesAndSettles c r { s.p60.withHead r with orders := l', scanDue := true }
              ([0] ++ bFlags [s.p60.orders.all (fun o => o.state.finished)] ++ b1 l'.length))))) ∧
  (∀ (p : Plan) (route : List Nat) (pad : Nat),
    let ranged : Prop := 1 ≤ route.length ∧ route.length ≤ 40 ∧ (∀ n ∈ route, 1 ≤ n ∧ n ≤ 240) ∧ 1 ≤ pad ∧ pad ≤ 160
    (¬ ranged → routeRefusal p route pad = some .outOfRange) ∧
    (ranged → (∃ n ∈ route, p.section? n = none) ∨ p.pad? pad = none →
      routeRefusal p route pad = some .notInPlan) ∧
    (∀ d, ranged → (∀ n ∈ route, p.section? n ≠ none) → p.pad? pad = some d →
      (¬ route.Nodup ∨ p.derive route = none ∨ route.getLast? ≠ some d.spur →
        routeRefusal p route pad = some .routeInvalid) ∧
      (route.Nodup → p.derive route ≠ none → route.getLast? = some d.spur →
        routeRefusal p route pad = none))) ∧
  (∀ (p : Plan) (route : List Nat) (l : List RouteStep), p.meetsOnce →
    (p.derive route = some l ↔ p.derivation route l)) ∧
  (∀ (o : Order) (s : P60),
    (∀ p, s.plan = .active p → s.stepsOf o = (p.derive o.route).getD []) ∧
    ((∀ p, s.plan ≠ .active p) → s.stepsOf o = [])) ∧
  (∀ (new l : List Order),
    placeAt .head new l = new ++ l ∧ placeAt .tail new l = l ++ new ∧
    ∀ (id : Half) (a b : List Order) (o : Order), (∀ x ∈ a, x.id ≠ id.toNat) → o.id = id.toNat →
      l = a ++ o :: b → placeAt (.after id) new l = a ++ o :: (new ++ b))

/-- MOVE_ORDER (R67), REMOVE_ORDER (R68) and COLLECT_FINISHED (R69): a held list refuses each LIST_HELD (R77); a
QUEUED order is moved to the position (R64), read on the list without it, and a changed list triggers a scan; a
QUEUED or finished order is removed; and the finished order nearest the head is collected with its whole record.
The two flags' places in their byte: log 15; what a refusal carries: log 16. -/
def Obligations.MoveRemoveAndCollectEditTheList : Prop :=
  (∀ (tag : Byte) (id : Half) (pos : Position) (o : Order) (s : State), tag ≠ 0 → pos.wf = true →
    let r : Request := ⟨tag, 0x29, b2 id.toNat ++ positionBytes pos⟩
    let l := placeAt pos [o] (s.p60.orders.filter (fun x => x.id != o.id))
    s.p60.turnOf r →
    (s.p60.scanning = true → s.refuses (.moveOrder tag id pos) r .listHeld []) ∧
    (s.p60.scanning = false → s.p60.order? id.toNat = none →
      s.refuses (.moveOrder tag id pos) r .unknownId []) ∧
    (s.p60.scanning = false → s.p60.order? id.toNat = some o →
      (∀ form, pos = .other form → s.refuses (.moveOrder tag id pos) r .outOfRange []) ∧
      (∀ other, pos = .after other → s.p60.order? other.toNat = none →
        s.refuses (.moveOrder tag id pos) r .unknownId []) ∧
      (pos = .head ∨ pos = .tail ∨ (∃ other, pos = .after other ∧ (s.p60.order? other.toNat).isSome) →
        (o.state ≠ .queued → s.refuses (.moveOrder tag id pos) r .badState []) ∧
        (o.state = .queued → pos = .after id ∨ l = s.p60.orders →
          s.serves (.moveOrder tag id pos) r (s.p60.withHead r) []) ∧
        (o.state = .queued → pos ≠ .after id → l ≠ s.p60.orders →
          s.servesAndSettles (.moveOrder tag id pos) r
            { s.p60.withHead r with orders := l, scanDue := true } [])))) ∧
  (∀ (tag : Byte) (id : Half) (s : State), tag ≠ 0 → s.p60.turnOf ⟨tag, 0x2A, b2 id.toNat⟩ →
    let r : Request := ⟨tag, 0x2A, b2 id.toNat⟩
    let l := s.p60.orders.filter (fun x => x.id != id.toNat)
    (s.p60.scanning = true →
      s.refuses (.removeOrder tag id) r .listHeld (bFlags [true, s.p60.orders.isEmpty])) ∧
    (s.p60.scanning = false → s.p60.order? id.toNat = none →
      s.refuses (.removeOrder tag id) r .unknownId (bFlags [true, s.p60.orders.isEmpty])) ∧
    (∀ o, s.p60.scanning = false → s.p60.order? id.toNat = some o →
      (o.state.live = true →
        s.refuses (.removeOrder tag id) r .badState (bFlags [true, s.p60.orders.isEmpty])) ∧
      (o.state = .queued ∨ o.state.finished = true →
        s.serves (.removeOrder tag id) r { s.p60.withHead r with orders := l }
          (bFlags [false, l.isEmpty] ++ b1 o.state.code ++ b1 o.state.reasonCode)))) ∧
  (∀ (tag : Byte) (s : State), tag ≠ 0 → s.p60.turnOf ⟨tag, 0x2B, []⟩ →
    (s.p60.scanning = true →
      s.refuses (.collectFinished tag) ⟨tag, 0x2B, []⟩ .listHeld (bFlags [true, s.p60.orders.isEmpty])) ∧
    (s.p60.scanning = false → (∀ o ∈ s.p60.orders, o.state.finished = false) →
      s.serves (.collectFinished tag) ⟨tag, 0x2B, []⟩ (s.p60.withHead ⟨tag, 0x2B, []⟩)
        (bFlags [true, s.p60.orders.isEmpty])) ∧
    (∀ (a b : List Order) (o : Order), s.p60.scanning = false → s.p60.orders = a ++ o :: b →
      (∀ x ∈ a, x.state.finished = false ∧ x.id ≠ o.id) → (∀ x ∈ b, x.id ≠ o.id) → o.state.finished = true →
      s.serves (.collectFinished tag) ⟨tag, 0x2B, []⟩
        { s.p60.withHead ⟨tag, 0x2B, []⟩ with orders := a ++ b }
        (s.p60.orderFields o ++ b1 (a.length + 1) ++ bFlags [false, (a ++ b).isEmpty])))

/-- CANCEL_ORDER finishes a QUEUED order as CANCELLED in place, its promise freed, ORDER_FINISHED raised and a
scan triggered; of a SUSPENDED one the route progress and the authority are closed too; any other is refused. -/
def Obligations.CancelOrderFinishesInPlace : Prop :=
  ∀ (tag : Byte) (id : Half) (s : State), tag ≠ 0 → s.p60.turnOf ⟨tag, 0x2C, b2 id.toNat⟩ →
    let r : Request := ⟨tag, 0x2C, b2 id.toNat⟩
    let l := s.p60.orders.map (fun x =>
      if x.id = id.toNat then { x with state := .cancelled, promise := false } else x)
    (s.p60.scanning = true → s.refuses (.cancelOrder tag id) r .listHeld []) ∧
    (s.p60.scanning = false → s.p60.order? id.toNat = none → s.refuses (.cancelOrder tag id) r .unknownId []) ∧
    (∀ o, s.p60.scanning = false → s.p60.order? id.toNat = some o →
      (o.state = .queued →
        s.servesAndSettles (.cancelOrder tag id) r
          { P60.raise { s.p60.withHead r with orders := l } .orderFinished with scanDue := true } []) ∧
      (∀ g c, o.state = .suspended g c → ∃ e, s.servesAndSettles (.cancelOrder tag id) r e [] ∧
        e.orders = l ∧ e.counts.orderFinished = min 255 (s.p60.counts.orderFinished + 1) ∧ e.scanDue = true ∧
        (e.slot o.slot).progress.order = 0 ∧ (e.slot o.slot).authority.state = .none) ∧
      ((∃ g c, o.state = .active g c) ∨ o.state.finished = true →
        s.refuses (.cancelOrder tag id) r .badState []))

/-- STOP_ORDER: an order standing in SETTING, WAITING or HELD is SUSPENDED(STOPPED) at once; one in RUNNING has its
authority cut back and goes to STOPPING with that stop reason; the reply gives state and stage, and any other order
is refused BAD_STATE. RESUME_ORDER: refused while its tests fail; a resumption in SETTING whose check passes drops a
pending release ahead, triggers a scan, loads the timer for the front's section and makes the first pass with the
reach 0, or is HELD while the slot is held; one whose check fails ends FAILED(ROUTE_START). -/
def Obligations.StopAndResumeOrders : Prop :=
  (∀ (tag : Byte) (id : Half) (o : Order) (s : State), tag ≠ 0 → s.p60.turnOf ⟨tag, 0x2D, b2 id.toNat⟩ →
    let r : Request := ⟨tag, 0x2D, b2 id.toNat⟩
    s.p60.order? id.toNat = some o →
    (∀ g, o.state = .active g none → g = .setting ∨ g = .waiting ∨ g = .held →
      s.p60.liveOrder? o.slot = some o →
      ∃ e, s.servesAndSettles (.stopOrder tag id) r e [3, 1] ∧
        e.orders = s.p60.orders.map (fun x =>
          if x.id = id.toNat then { x with state := .suspended .setting .stopped } else x)) ∧
    (o.state = .active .running none → s.p60.liveOrder? o.slot = some o →
      let cut := (s.p60.withHead r).cutBack o.slot
      let e := cut.setStage o.slot .stopping (some .stopped)
      s.servesAndSettles (.stopOrder tag id) r e [2, 4] ∧
        e.orders = s.p60.orders.map (fun x =>
          if x.id = id.toNat then { x with state := .active .stopping (some .stopped) } else x)) ∧
    (o.state = .queued ∨ (∃ g c, o.state = .suspended g c) ∨ o.state.finished = true ∨
        (∃ g c, o.state = .active g c ∧ (g = .stopping ∨ g.isDocking = true)) →
      s.refuses (.stopOrder tag id) r .badState [])) ∧
  (∀ (tag : Byte) (id : Half) (o : Order) (s : State), tag ≠ 0 → s.p60.turnOf ⟨tag, 0x2E, b2 id.toNat⟩ →
    let r : Request := ⟨tag, 0x2E, b2 id.toNat⟩
    s.p60.order? id.toNat = some o →
    ((∀ g c, o.state ≠ .suspended g c) → s.refuses (.resumeOrder tag id) r .badState []) ∧
    (∀ g c, o.state = .suspended g c →
      (s.p60.estop = true ∨ s.p60.silence.state = .expired ∨ (s.p60.slot o.slot).status = .empty ∨
          (s.p60.slot o.slot).status = .lost ∨ (s.p60.slot o.slot).status = .conflict ∨
          (s.p60.slot o.slot).fault.isSome →
        s.refuses (.resumeOrder tag id) r .badState []) ∧
      (s.p60.estop = false → s.p60.silence.state ≠ .expired → (s.p60.slot o.slot).status.fixed = false →
        (s.p60.slot o.slot).fault = none → s.p60.liveOrder? o.slot = some o →
        s.servesAndSettles (.resumeOrder tag id) r ((s.p60.withHead r).resume o g) (b1 g.code) ∧
        (g.isDocking = false →
          let fi := indexIn (s.p60.slot o.slot).front.sec.toNat o.route
          let passes : Prop := (fi = o.routeIndex ∨ fi = o.routeIndex + 1) ∧ fi ≠ 0 ∧
            ∃ st, (s.p60.stepsOf o)[fi - 1]? = some st ∧ s.p60.owner? st.sec = some (.slot o.slot) ∧
              ∀ leg, st.leg = some leg → s.p60.detectedIn st.sec leg = true
          let begins := P60.setStage { (s.p60.withHead r).withSlot o.slot (fun x =>
            { x with motion := { x.motion with releaseAhead := false } }) with scanDue := true } o.slot .setting none
          let timed := P60.loadTimer (begins.withSlot o.slot (fun x =>
            { x with progress := { x.progress with reach := 0, handed := none } })) o.slot o fi
          (passes → (s.p60.slot o.slot).held = true →
            (s.p60.withHead r).resume o g = timed.setStage o.slot .held none) ∧
          (passes → (s.p60.slot o.slot).held = false →
            (s.p60.withHead r).resume o g = timed.passEvent o.slot) ∧
          (¬ passes → ((s.p60.withHead r).resume o g).orders = s.p60.orders.map (fun x =>
            if x.id = id.toNat then { x with state := .failed .routeStart, promise := false } else x))))))

/-- QUERY_ORDER returns an order's whole record, every field of R79 in order; LIST_ORDERS returns the counts and
up to 32 entries from the position asked for; QUERY_WAITS and QUERY_DEADLOCK return the waits of the six slots and
the last deadlock, every field of R100 and R101 in order. They change nothing. -/
def Obligations.QueriesOfOrdersAndWaits : Prop :=
  (∀ (tag : Byte) (id : Half) (s : State), tag ≠ 0 → s.p60.turnOf ⟨tag, 0x2F, b2 id.toNat⟩ →
    s.p60.transferring = false →
    (s.p60.order? id.toNat = none → exec (.queryOrder tag id) s =
      .next (s.replied ⟨tag, 0x2F, b2 id.toNat⟩ .unknownId [])) ∧
    (∀ o, s.p60.order? id.toNat = some o →
      exec (.queryOrder tag id) s = .next (s.replied ⟨tag, 0x2F, b2 id.toNat⟩ .ok
        (b2 o.id ++ b1 o.kind.code ++ b1 (o.slot.val + 1) ++ b1 o.telescope ++ b1 o.pad ++
          b1 (s.p60.orders.findIdx (fun x => x.id == o.id) + 1) ++ b1 o.state.code ++
          (match o.state with
            | .active g none => b1 g.code ++ b1 0 ++ b1 0
            | .active g (some c) => b1 g.code ++ b1 c.code ++ b1 0
            | .suspended g c => b1 g.code ++ b1 0 ++ b1 c.code
            | .failed c => b1 0 ++ b1 0 ++ b1 c.code
            | _ => b1 0 ++ b1 0 ++ b1 0) ++
          b1 o.routeIndex ++ b1 o.interventions ++ bFlags [o.promise] ++ b1 o.route.length ++
          o.route.map (BitVec.ofNat 8))))) ∧
  (∀ (tag start : Byte) (s : State), tag ≠ 0 → s.p60.turnOf ⟨tag, 0x30, [start]⟩ →
    s.p60.transferring = false →
    (start = 0 ∨ 64 < start.toNat →
      exec (.listOrders tag start) s = .next (s.replied ⟨tag, 0x30, [start]⟩ .outOfRange [])) ∧
    (1 ≤ start.toNat → start.toNat ≤ 64 →
      let listed := (s.p60.orders.drop (start.toNat - 1)).take 32
      exec (.listOrders tag start) s = .next (s.replied ⟨tag, 0x30, [start]⟩ .ok
        (b1 s.p60.orders.length ++ b1 (s.p60.orders.countP (fun o => o.state.code == 1)) ++
          b1 (s.p60.orders.countP (fun o => o.state.code == 2)) ++
          b1 (s.p60.orders.countP (fun o => o.state.code == 3)) ++
          b1 (s.p60.orders.countP (fun o => decide (4 ≤ o.state.code))) ++ b1 listed.length ++
          listed.flatMap (fun o =>
            b2 o.id ++ b1 o.kind.code ++ b1 (o.slot.val + 1) ++ b1 o.state.code ++
              b1 (stageCode o.state.stage?) ++ b1 o.state.reasonCode) ++
          bFlags [decide (start.toNat - 1 + 32 < s.p60.orders.length)])))) ∧
  (∀ (tag : Byte) (s : State), tag ≠ 0 → s.p60.turnOf ⟨tag, 0x34, []⟩ → s.p60.transferring = false →
    exec (.queryWaits tag) s = .next (s.replied ⟨tag, 0x34, []⟩ .ok
      (([0, 1, 2, 3, 4, 5] : List SlotId).flatMap (fun k =>
        b1 (k.val + 1) ++
          (match s.p60.liveOrder? k with
            | none => b2 0 ++ b1 0
            | some o => b2 o.id ++ b1 o.routeIndex) ++
          b1 (s.p60.slot k).progress.reach ++
          (match (s.p60.slot k).progress.wait with
            | none => b1 0 ++ b1 0 ++ b1 (s.p60.waitPlace k 0) ++ b4 0
            | some w =>
              b1 w.sec ++
                b1 (match w.on with
                  | .slot j => j.val + 1
                  | .possession => 7
                  | .none => 8) ++
                b1 (s.p60.waitPlace k w.sec) ++ b4 (s.p60.elapsed w.since)) ++
          bFlags [match s.p60.deadlock with
            | none => false
            | some d => (d.members.map (·.1)).contains k && s.p60.deadlockStands d])))) ∧
  (∀ (tag : Byte) (s : State), tag ≠ 0 → s.p60.turnOf ⟨tag, 0x35, []⟩ → s.p60.transferring = false →
    exec (.queryDeadlock tag) s = .next (s.replied ⟨tag, 0x35, []⟩ .ok
      (match s.p60.deadlock with
        | none => b1 0
        | some d =>
          b1 d.members.length ++ d.members.flatMap (fun m => b1 (m.1.val + 1) ++ b1 m.2) ++
            b4 (s.p60.elapsed d.time) ++ bFlags [s.p60.deadlockStands d])))

/-! ## Waits, authority, motion -/

/-- The queries of a slot's authority and motion return their records, every field of R119 and R138 in order;
QUERY_ROSTER makes the change set active and returns it, by slot number (the model's choice, log 26), with the
slots' roster entries, QUERY_SLOT takes the slot out of it and returns the fields of R176, and QUERY_STRANGERS
returns the list. Nothing else changes; a slot outside 1..6 is refused OUT_OF_RANGE; and a query, IDENTIFY, LIST_ORDERS
or a request judged by the location table (log 52) that comes while a transfer is written is left waiting. The codes
of named values: log 15; the lookahead while no plan is ACTIVE: log 53. -/
def Obligations.QueriesOfTheSlots : Prop :=
  (∀ (tag n : Byte) (k : SlotId) (s : State), tag ≠ 0 → n.toNat = k.val + 1 →
    s.p60.transferring = false →
    (s.p60.turnOf ⟨tag, 0x36, [n]⟩ →
      exec (.queryAuthority tag n) s = .next (s.replied ⟨tag, 0x36, [n]⟩ .ok
        ([n] ++
          (match (s.p60.slot k).authority.state with
            | .none => b1 0 ++ b1 0 ++ b4 0 ++ b1 0
            | .given e => b1 1 ++ b1 e.sec ++ b4 e.off ++ b1 e.kind.code
            | .braked e => b1 2 ++ b1 e.sec ++ b4 e.off ++ b1 e.kind.code) ++
          b2 (s.p60.slot k).authority.sentCeiling ++
          b4 (if (s.p60.slot k).status = .empty then 0
            else ceilDiv (s.p60.vMax k ^ 2) (2 * s.p60.decel k) + s.p60.margin) ++
          (match (s.p60.slot k).authority.lastEval with
            | none => List.replicate 20 (0 : Byte)
            | some v =>
              b4 (s.p60.elapsed v.time) ++ b1 v.basis.code ++ b4i v.d ++ b2 v.ceiling ++ b2 v.e ++ b2 v.p ++
                b2 v.t ++ b2 v.speed ++ b1 v.targets) ++
          (match (s.p60.slot k).authority.lastIntervention with
            | none => List.replicate 15 (0 : Byte)
            | some v =>
              b4 (s.p60.elapsed v.time) ++ b1 v.basis.code ++ b4i v.d ++ b2 v.p ++ b2 v.t ++ b2 v.speed) ++
          (match s.p60.liveOrder? k with
            | none => b1 0
            | some o => b1 o.interventions)))) ∧
    (s.p60.turnOf ⟨tag, 0x37, [n]⟩ →
      exec (.queryMotion tag n) s = .next (s.replied ⟨tag, 0x37, [n]⟩ .ok
        ([n] ++ b1 (s.p60.slot k).status.code ++
          (match s.p60.liveOrder? k with
            | none => b2 0 ++ b1 0
            | some o => b2 o.id ++ b1 (stageCode o.state.stage?)) ++
          bFlags [(s.p60.slot k).motion.standing, (s.p60.slot k).motion.resent] ++
          b4 (match (s.p60.slot k).motion.lastReport with
            | none => 0
            | some t => s.p60.elapsed t) ++
          bFlags [(s.p60.slot k).motion.releaseAhead] ++ b1 (s.p60.slot k).timer.state.code ++
          b1 (s.p60.slot k).timer.cause.code ++ b1 (s.p60.slot k).timer.sec ++
          b4 (s.p60.slot k).timer.period ++ b4 (s.p60.slot k).timer.count ++
          (match (s.p60.slot k).timer.last with
            | none => b1 0 ++ b4 0 ++ b4 0
            | some p => b1 p.sec ++ b4 p.elapsed ++ b4 p.allowance)))) ∧
    (s.p60.turnOf ⟨tag, 0x43, [n]⟩ →
      let x := s.p60.slot k
      let place : Option Placed → List Byte := fun p => b1 (match p with
        | none => 0
        | some m => match m.msg with
          | .bind _ => 1
          | .poll => 2
          | .authority _ _ _ => 3
          | .brake => 4
          | .lift => 5
          | .lower => 6
          | .standDown => 7)
      s.serves (.querySlot tag n) ⟨tag, 0x43, [n]⟩
        { s.p60.withHead ⟨tag, 0x43, [n]⟩ with changeSet := s.p60.changeSet.map (·.erase k) }
        ([n] ++ b1 x.status.code ++
          (match x.ident with
            | none => List.replicate 5 (0 : Byte)
            | some i => [i.maker] ++ b4 i.serial.toNat) ++
          [x.model, x.revision] ++ b4 x.figures.length ++ b2 x.figures.ladenSpeed ++
          b2 x.figures.ladenDecel ++ b2 x.figures.unladenSpeed ++ b2 x.figures.unladenDecel ++
          bFlags x.figures.clamped ++ b1 (if x.reportedLoad then 1 else 0) ++
          b1 (if s.p60.laden k then 1 else 2) ++ bFlags [x.fault.isSome] ++
          b1 (match x.fault with
            | none => 0
            | some .transporterFault => 1
            | some .loadMismatch => 2) ++
          [x.lastFault, x.announcedFront.sec] ++ b4 x.announcedFront.off.toNat ++
          [x.announcedRear.sec] ++ b4 x.announcedRear.off.toNat ++
          b1 (match x.peer with
            | none => 0
            | some p => p.failures) ++
          b4 (match x.status with
            | .empty => 0
            | .lost => 0
            | .stopping => 500
            | _ => if x.authority.state = .none then 5000 else 500) ++
          b4 (match x.peer.bind (·.lastReply) with
            | none => 0
            | some t => s.p60.elapsed t) ++
          place (x.peer.bind (·.bind)) ++ place (x.peer.bind (·.motion)) ++ place (x.peer.bind (·.docking)) ++
          bFlags [match s.p60.changeSet with
            | none => false
            | some l => l.contains k]))) ∧
  (∀ (tag n : Byte) (s : State), tag ≠ 0 → n = 0 ∨ 6 < n.toNat → s.p60.transferring = false →
    (s.p60.turnOf ⟨tag, 0x36, [n]⟩ →
      exec (.queryAuthority tag n) s = .next (s.replied ⟨tag, 0x36, [n]⟩ .outOfRange [])) ∧
    (s.p60.turnOf ⟨tag, 0x37, [n]⟩ →
      exec (.queryMotion tag n) s = .next (s.replied ⟨tag, 0x37, [n]⟩ .outOfRange [])) ∧
    (s.p60.turnOf ⟨tag, 0x43, [n]⟩ → s.refuses (.querySlot tag n) ⟨tag, 0x43, [n]⟩ .outOfRange [])) ∧
  (∀ (tag : Byte) (s : State), tag ≠ 0 → s.p60.turnOf ⟨tag, 0x42, []⟩ → s.p60.transferring = false →
    s.serves (.queryRoster tag) ⟨tag, 0x42, []⟩
      { s.p60.withHead ⟨tag, 0x42, []⟩ with changeSet := some (s.p60.changeSet.getD []) }
      (bList ((([0, 1, 2, 3, 4, 5] : List SlotId).filter (fun k => match s.p60.changeSet with
          | none => false
          | some l => l.contains k)).map (fun k => b1 (k.val + 1))) ++
        ([0, 1, 2, 3, 4, 5] : List SlotId).flatMap (fun k =>
          b1 (s.p60.slot k).status.code ++ identBytes ((s.p60.slot k).ident.getD ⟨0, 0⟩) ++
            bFlags [(s.p60.slot k).fault.isSome] ++
            b1 (match (s.p60.slot k).fault with
              | none => 0
              | some .transporterFault => 1
              | some .loadMismatch => 2) ++
            b1 (if s.p60.laden k then 1 else 2)))) ∧
  (∀ (tag : Byte) (s : State), tag ≠ 0 → s.p60.turnOf ⟨tag, 0x44, []⟩ → s.p60.transferring = false →
    exec (.queryStrangers tag) s = .next (s.replied ⟨tag, 0x44, []⟩ .ok
      (b1 s.p60.strangers.length ++ s.p60.strangers.flatMap (fun x =>
        identBytes x.ident ++ [x.ident.maker, x.model, x.revision, x.cls] ++ b1 x.reason.code ++
          b4 (s.p60.elapsed x.listed) ++ b1 x.peer.failures)))) ∧
  (∀ (tag n : Byte) (id : Half) (sel : PlanSelector) (pos : Position) (l : List OrderDesc) (target : PlaceTarget)
      (c : Instr) (r : Request) (s : State),
    c ∈ [Instr.identify tag, .queryAttention tag, .queryField tag n, .queryPlan tag sel, .querySection tag n,
      .queryTurnout tag n, .queryOrder tag id, .listOrders tag n, .queryWaits tag, .queryDeadlock tag,
      .queryAuthority tag n, .queryMotion tag n, .queryPad tag n, .queryTelescope tag n, .queryAcceptance tag,
      .queryRoster tag, .querySlot tag n, .queryStrangers tag, .queryHolds tag, .planCommit tag,
      .insertOrders tag pos l, .placeTelescope tag n target] →
    requestOf c = some r → s.p60.requests.head? = some r → s.p60.transferring = true →
    exec c s = .next { s with p60 := { s.p60 with out := [] } })

/-- The supervised speed: on the curve P is the lowest of the ceiling, the EoA term and the speed targets' terms
S_k, and T follows from P; off the route and reversed both are 0, the figures not computed recorded as 0 (log 49).
A report faster than P and T together, outside docking and with the record GIVEN, is an intervention, and no other
is: with the record BRAKED a report is recorded and nothing more. That the ceiling is computed again in the report
that intervenes, before it does, is the model's choice (log 7). Without an authority or an ACTIVE order any motion is
unauthorised. The end of authority handed over and the ceiling sent with it (a front off the route: log 48). -/
def Obligations.SpeedIsSupervisedAgainstTheCurve : Prop :=
  (∀ x : Nat, x < 4294967296 → isqrt x * isqrt x ≤ x ∧ x < (isqrt x + 1) * (isqrt x + 1)) ∧
  (∀ (d : Int) (a m : Nat),
    eoaTerm .sectionEnd d a m = (if d ≤ m then 0 else isqrt (2 * a * (d - m).toNat)) ∧
    eoaTerm .padStop d a m = (if d ≤ 50 then 0 else max 100 (isqrt (2 * a * d.toNat)))) ∧
  (∀ (p : Nat) (d : Int), tolerance .sectionEnd d p = (if p = 0 then 0 else max 50 (p / 16)) ∧
    tolerance .padStop d p = (if -50 ≤ d ∧ d ≤ 50 then 100 else if p = 0 then 0 else max 50 (p / 16))) ∧
  (∀ (l : List RouteStep) (i j off off' : Nat) (x y : RouteStep), l[i]? = some x → l[j]? = some y →
    let at' : Nat → RouteStep → Nat → Int := fun i x off =>
      ((l.take i).map (·.length)).sum + (if x.entry = .a then min off x.length else x.length - min off x.length : Nat)
    distance l (i + 1) off (j + 1) off' = at' j y off' - at' i x off) ∧
  (∀ (k : SlotId) (rep : PositionReport) (o : Order) (e : Eoa) (s : P60), s.liveOrder? k = some o →
    let v := min 3000 rep.speed.toNat
    let l := s.stepsOf o
    let fi := indexIn rep.front.sec.toNat o.route
    let ei := indexIn e.sec o.route
    let ahead : Prop := (s.planSection? rep.front.sec.toNat).isSome ∧ (s.planSection? rep.rear.sec.toNat).isSome ∧
      (s.slot k).progress.order ≠ 0 ∧ fi ≠ 0 ∧ o.routeIndex ≤ fi
    let ev := s.figuresOf k o rep e
    (¬ ahead → ev = ⟨s.clock, .offRoute, 0, 0, 0, 0, 0, v, 0⟩) ∧
    (ahead → rep.direction = .backward → v ≠ 0 → ev = ⟨s.clock, .reversed, 0, 0, 0, 0, 0, v, 0⟩) ∧
    (∀ x y, ahead → rep.direction = .forward ∨ v = 0 → s.planSection? rep.front.sec.toNat = some x →
      s.planSection? rep.rear.sec.toNat = some y →
      let f := (s.slot k).figures
      let a := if s.laden k then f.ladenDecel else f.unladenDecel
      let target : Nat → RouteStep → Prop := fun j t =>
        fi ≤ j ∧ j < ei ∧ l[j]? = some t ∧ t.lineSpeed < ev.ceiling
      let term : Nat → RouteStep → Nat := fun j t => isqrt (t.lineSpeed * t.lineSpeed + 2 * a *
        min 2000000 (((l.take j).map (·.length)).sum - coordinate l fi rep.front.off.toNat))
      ev.time = s.clock ∧ ev.basis = .curve ∧ ev.speed = v ∧
        ev.d = min (distance l fi rep.front.off.toNat ei e.off) 2000000 ∧
        ev.ceiling = min (min (if s.laden k then f.ladenSpeed else f.unladenSpeed) x.lineSpeed) y.lineSpeed ∧
        ev.e = eoaTerm e.kind ev.d a s.margin ∧
        ev.p ≤ ev.ceiling ∧ ev.p ≤ ev.e ∧ (∀ j t, target j t → ev.p ≤ term j t) ∧
        (ev.p = ev.ceiling ∨ ev.p = ev.e ∨ ∃ j t, target j t ∧ ev.p = term j t) ∧
        ev.t = tolerance e.kind ev.d ev.p ∧
        ev.targets = ((l.take ei).drop fi).countP (fun t => decide (t.lineSpeed < ev.ceiling)))) ∧
  (∀ (k : SlotId) (rep : PositionReport) (o : Order) (g : Stage) (c : Option Cause) (e : Eoa) (s : P60),
    s.activeOrder? k = some (o, g, c) → (s.slot k).authority.state = .given e →
    let ev := s.figuresOf k o rep e
    let t := s.evaluate k rep
    let linked : Prop := (s.slot k).ident.isSome ∧ (s.slot k).peer.isSome ∧ (s.slot k).status ≠ .lost
    (t.slot k).authority.lastEval = some ev ∧ (t.slot k).authority.sentCeiling = s.ceilingFor k e ∧
    (ev.speed ≤ ev.p + ev.t ∨ g.isDocking = true →
      (t.slot k).authority.state = .given e ∧ t.orders = s.orders ∧ t.counts = s.counts ∧
        (linked → s.ceilingFor k e ≠ (s.slot k).authority.sentCeiling →
          ((t.slot k).peer.bind (·.motion)).map (·.msg) = some (.authority e.sec e.off (s.ceilingFor k e)))) ∧
    (ev.p + ev.t < ev.speed → g.isDocking = false →
      (t.slot k).authority.state = .braked e ∧
        (t.slot k).authority.lastIntervention = some ⟨ev.time, ev.basis, ev.d, ev.p, ev.t, ev.speed⟩ ∧
        (linked → ((t.slot k).peer.bind (·.motion)).map (·.msg) = some .brake) ∧
        t.orders = s.orders.map (fun x =>
          if x.id = o.id then
            { x with
              interventions := min 3 (x.interventions + 1)
              state := if g = .running ∨ g = .waiting ∨ g = .held then .active .stopping none else x.state }
          else x) ∧
        t.counts.intervention = min 255 (s.counts.intervention + 1))) ∧
  (∀ (k : SlotId) (rep : PositionReport) (o : Order) (g : Stage) (c : Option Cause) (e : Eoa) (s : P60),
    s.activeOrder? k = some (o, g, c) → (s.slot k).authority.state = .braked e →
    s.evaluate k rep = s.withSlot k (fun x =>
      { x with authority := { x.authority with lastEval := some (s.figuresOf k o rep e) } })) ∧
  (∀ (k : SlotId) (rep : PositionReport) (s : P60),
    s.activeOrder? k = none ∨ (s.slot k).authority.state = .none →
    let v := min 3000 rep.speed.toNat
    let t := s.evaluate k rep
    (v = 0 → t = s) ∧
    (v ≠ 0 → t.orders = s.orders ∧ t.counts.intervention = min 255 (s.counts.intervention + 1) ∧
      (t.slot k).authority = { (s.slot k).authority with
        state := match (s.slot k).authority.state with
          | .given e => .braked e
          | st => st
        lastIntervention := some ⟨s.clock, s.basis k rep, 0, 0, 0, v⟩ } ∧
      ((s.slot k).ident.isSome → (s.slot k).peer.isSome → (s.slot k).status ≠ .lost →
        ((t.slot k).peer.bind (·.motion)).map (·.msg) = some .brake))) ∧
  (∀ (k : SlotId) (e : Eoa) (i : Identity) (p : Peer) (s : P60), (s.slot k).ident = some i →
    (s.slot k).peer = some p → (s.slot k).status ≠ .lost →
    let a := (s.slot k).authority
    let sends : PeerMsg → Option Peer := fun m =>
      some { p with motion := some ⟨m, nextTag p.lastTag, false, none⟩, lastTag := nextTag p.lastTag }
    ((a.state = .none ∨ ∃ e', a.state = .given e') →
      s.handEoa k (some e) = s.withSlot k (fun x =>
        { x with
          authority := { a with state := .given e, sentCeiling := s.ceilingFor k e }
          peer := sends (.authority e.sec e.off (s.ceilingFor k e)) })) ∧
    (∀ e', a.state = .braked e' →
      s.handEoa k (some e) = s.withSlot k (fun x => { x with authority := { a with state := .braked e } }) ∧
      s.handEoa k none = s.withSlot k (fun x =>
        { x with authority := { a with state := .none, sentCeiling := 0 } })) ∧
    (∀ e', a.state = .given e' →
      s.handEoa k none = s.withSlot k (fun x =>
        { x with authority := { a with state := .none, sentCeiling := 0 }, peer := sends .brake })) ∧
    (a.state = .none → s.handEoa k none = s)) ∧
  (∀ (k : SlotId) (e : Eoa) (o : Order) (x y : PlanSection) (s : P60), s.liveOrder? k = some o →
    s.planSection? (s.slot k).front.sec.toNat = some x → s.planSection? (s.slot k).rear.sec.toNat = some y →
    let fi := indexIn (s.slot k).front.sec.toNat o.route
    let ei := indexIn e.sec o.route
    let own := min (min (s.vMax k) x.lineSpeed) y.lineSpeed
    (fi ≠ 0 →
      s.ceilingFor k e = ((((s.stepsOf o).take ei).drop fi).map (·.lineSpeed)).foldl min own) ∧
    (fi = 0 → s.ceilingFor k e = own))

/-- The reservation attempt (R18 to R20): a FREE, uninhibited and powered section whose turnout, if a leg is
required, is detected in it, is granted RESERVED to the slot from now on, unless another slot stands first in its
queue (log 11); the slot's own section is taken into the route, or waited for while its release is pending; and
any other answer is WAITING, with the slot in the section's queue and a wait on the owner, or on none. The first
waiter of a FREE, uninhibited and powered section has its throw asked for. A slot joins the tail, keeps a place
that it has, and leaves another queue first; a wait that continues is not begun again. -/
def Obligations.ReservationAttemptsGrantOrWait : Prop :=
  (∀ (k : SlotId) (st : RouteStep) (x : SectionRec) (s : P60), s.section? st.sec = some x → x.occ = .free →
    x.inhibit = false → s.powered st.sec = true → (∀ leg, st.leg = some leg → s.detectedIn st.sec leg = true) →
    x.waiters = [] ∨ x.waiters.head? = some k →
    (s.attempt k st).2 = true ∧
      (s.attempt k st).1 = P60.reviseWaits { s with
        sections := s.sections.map (fun r =>
          if r.num = st.sec then
            { r with
              occ := .reserved ⟨.slot k, some st.entry, st.leg, s.clock, true, false, none⟩ none
              waiters := r.waiters.erase k }
          else r) } st.sec (.slot k) ∧
      ((s.attempt k st).1.section? st.sec).map (fun x => (x.occ, x.waiters)) =
        some (.reserved ⟨.slot k, some st.entry, st.leg, s.clock, true, false, none⟩ none,
          x.waiters.erase k)) ∧
  (∀ (k : SlotId) (st : RouteStep) (x : SectionRec) (h : Holding) (s : P60), s.section? st.sec = some x →
    x.occ.holding? = some h → h.owner ≠ .slot k →
    let on : WaitOn := match h.owner with
      | .slot j => .slot j
      | .possession => .possession
    (s.attempt k st).2 = false ∧
      (s.attempt k st).1 = (s.joinQueue k st.sec).recordWait k st.sec on ∧
      ((s.attempt k st).1.section? st.sec).map (·.occ) = some x.occ ∧
      ((s.attempt k st).1.slot k).progress.wait.map (fun w => (w.sec, w.on)) = some (st.sec, on)) ∧
  (∀ (k : SlotId) (st : RouteStep) (x : SectionRec) (h : Holding) (s : P60), s.section? st.sec = some x →
    x.occ.holding? = some h → h.owner = .slot k →
    (h.releasePending = false → s.attempt k st = ({ s with
      sections := s.sections.map (fun r =>
        if r.num = st.sec then
          { r with occ := r.occ.mapHolding (fun h =>
            { h with entry := some st.entry, leg := st.leg, autoRelease := true }) }
        else r) }, true)) ∧
    (h.releasePending = true →
      s.attempt k st = ((s.joinQueue k st.sec).recordWait k st.sec .none, false))) ∧
  (∀ (k : SlotId) (st : RouteStep) (x : SectionRec) (s : P60), s.section? st.sec = some x →
    x.occ.holding? = none →
    let waiting := (s.joinQueue k st.sec).recordWait k st.sec .none
    let calm : Prop := x.inhibit = false ∧ s.powered st.sec = true
    (x.occ ≠ .free ∨ x.inhibit = true ∨ s.powered st.sec = false ∨
        (x.occ = .free ∧ st.leg = none ∧ x.waiters.head?.isSome ∧ x.waiters.head? ≠ some k) →
      s.attempt k st = (waiting, false)) ∧
    (∀ (leg : Leg) (t : TurnoutRec), x.occ = .free → calm → st.leg = some leg → s.turnoutIn? st.sec = some t →
      (x.waiters.head?.isSome ∧ x.waiters.head? ≠ some k ∨ t.state = .failed ∨
          (∃ sl left, t.state = .moving leg sl left) →
        s.attempt k st = (waiting, false)) ∧
      ((x.waiters = [] ∧ s.queueOf? k ≠ some st.sec) ∨ x.waiters.head? = some k →
        t.state = .undetected ∨ t.state = .at leg.other ∨ (∃ sl left, t.state = .moving leg.other sl left) →
        s.attempt k st = ((waiting.throwRequest t.num leg).1, false)))) ∧
  (∀ (k : SlotId) (n : Nat) (s : P60),
    let joined : P60 → P60 := fun p => { p with
      sections := p.sections.map (fun r => if r.num = n then { r with waiters := r.waiters ++ [k] } else r) }
    ((∀ x ∈ s.sections, k ∉ x.waiters) → s.joinQueue k n = joined s) ∧
    (∀ a b x, s.sections = a ++ x :: b → (∀ y ∈ a, k ∉ y.waiters) → k ∈ x.waiters →
      (x.num = n → s.joinQueue k n = s) ∧
      (x.num ≠ n → s.joinQueue k n = joined (s.leaveQueue k x.num)))) ∧
  (∀ (k : SlotId) (n : Nat) (on : WaitOn) (s : P60),
    (∀ w, (s.slot k).progress.wait = some w → w.sec = n → w.on = on → s.recordWait k n on = s) ∧
    ((∀ w, (s.slot k).progress.wait = some w → ¬ (w.sec = n ∧ w.on = on)) →
      s.recordWait k n on = s.beginWait k n on ∧
      ((∀ j, on ≠ .slot j) → s.recordWait k n on = s.withSlot k (fun x =>
        { x with progress := { x.progress with wait := some ⟨n, on, s.clock⟩ } }))))

/-- A reservation pass. A pass event is acted on for an open record of a slot that is neither LOST nor held, its
order ACTIVE in SETTING, RUNNING or WAITING. The pass attempts the route sections after the run, in order, until the
lookahead is covered or an attempt is WAITING (no attempt where the front is not on the route from the route index
on: the model's reading, log 30); the end of authority that the run gives is handed where it differs from the last
one handed; and the stage goes from SETTING to RUNNING or WAITING and from WAITING to RUNNING, no AUTHORITY being
sent but by the handing (R104; R92 read beside it: log 12). An entry into a stage sets the order's stage and the slot's state, and re-judges the
passage timer. -/
def Obligations.ReservationPassesExtendTheRun : Prop :=
  (∀ (k : SlotId) (s : P60),
    let acts : Prop := (s.slot k).progress.order ≠ 0 ∧ (s.slot k).status ≠ .lost ∧ (s.slot k).held = false ∧
      ∃ o g c, s.activeOrder? k = some (o, g, c) ∧ (g = .setting ∨ g = .running ∨ g = .waiting)
    (acts → s.passEvent k = s.pass k) ∧ (¬ acts → s.passEvent k = s)) ∧
  (∀ (k : SlotId) (o : Order) (s : P60),
    let fi := indexIn (s.slot k).front.sec.toNat o.route
    let reach := (s.slot k).progress.reach
    let start := if reach = 0 then o.routeIndex else reach + 1
    (fi = 0 ∨ fi < o.routeIndex ∨ start = 0 → s.extendRun k o = s) ∧
    (fi ≠ 0 → o.routeIndex ≤ fi → start ≠ 0 →
      s.extendRun k o = s.passFrom k o start ((s.stepsOf o).drop (start - 1)))) ∧
  (∀ (k : SlotId) (o : Order) (j : Nat) (st : RouteStep) (rest : List RouteStep) (s : P60),
    let l := s.stepsOf o
    let reach := (s.slot k).progress.reach
    let far : Int := ((l.take reach).map (·.length)).sum -
      (coordinate l (indexIn (s.slot k).front.sec.toNat o.route) (s.slot k).front.off.toNat : Int)
    let covered : Prop := reach ≠ 0 ∧
      ((ceilDiv (s.vMax k * s.vMax k) (2 * s.decel k) + s.margin : Nat) : Int) ≤ far
    s.passFrom k o j [] = s ∧
    (covered → s.passFrom k o j (st :: rest) = s) ∧
    (¬ covered → (s.attempt k st).2 = false → s.passFrom k o j (st :: rest) = (s.attempt k st).1) ∧
    (¬ covered → (s.attempt k st).2 = true → s.passFrom k o j (st :: rest) =
      P60.passFrom k o (j + 1) rest ((s.attempt k st).1.withSlot k (fun x =>
        { x with progress := { x.progress with
          reach := j
          wait := x.progress.wait.bind (fun w => if w.sec = st.sec then none else some w) } })))) ∧
  (∀ (k : SlotId) (o : Order) (s : P60), s.liveOrder? k = some o →
    let reach := (s.slot k).progress.reach
    let gives : Option Eoa → Prop := fun e =>
      (reach = 0 ∧ e = none) ∨
      (reach ≠ 0 ∧ reach = o.route.length ∧
        ∃ d, s.planPad? o.pad = some d ∧ e = some ⟨d.spur, d.stopOffset, .padStop⟩) ∨
      (reach ≠ 0 ∧ reach ≠ o.route.length ∧ ∃ t, (s.stepsOf o)[reach - 1]? = some t ∧
        e = some ⟨t.sec, if t.entry = .a then t.length else 0, .sectionEnd⟩)
    ∀ e, gives e →
      ((s.slot k).progress.handed = some e → s.formEoa k = s) ∧
      ((s.slot k).progress.handed ≠ some e → s.formEoa k =
        (s.withSlot k (fun x => { x with progress := { x.progress with handed := some e } })).handEoa k e)) ∧
  (∀ (k : SlotId) (j : Nat) (s : P60), s.lowerReach k j =
    (s.withSlot k (fun x => { x with progress := { x.progress with reach := j } })).formEoa k) ∧
  (∀ (k : SlotId) (o : Order) (g : Stage) (c : Option Cause) (s : P60), s.activeOrder? k = some (o, g, c) →
    let u := (s.extendRun k o).formEoa k
    let before := (s.slot k).progress.reach
    let after := (u.slot k).progress.reach
    let runs := u.setStage k .running none
    (g = .setting → after = 0 → s.pass k = u.setStage k .waiting none) ∧
    (g = .setting → after ≠ 0 → s.pass k = runs) ∧
    (g = .waiting → before < after → s.pass k = runs) ∧
    (g = .waiting → after ≤ before → s.pass k = u) ∧
    (g ≠ .setting → g ≠ .waiting → s.pass k = u)) ∧
  (∀ (k : SlotId) (o : Order) (g : Stage) (c : Option Cause) (s : P60), s.liveOrder? k = some o →
    let leaves : Prop := g = .stopping ∨ g = .held ∨ g.isDocking = true
    let u : P60 := { s with
      orders := s.orders.map (fun x => if x.id = o.id then { x with state := .active g c } else x) }
    let follows : P60 → P60 := fun p => P60.judgeTimer (p.withSlot k (fun x =>
      if x.status = .empty ∨ x.status = .lost ∨ x.status = .conflict then x
      else { x with status := match g with
        | .setting => x.status
        | .running => .moving
        | .waiting => .waiting
        | .stopping => .stopping
        | .held => .held
        | _ => .docking })) k
    (leaves → s.setStage k g c = follows (u.withdrawWait k)) ∧ (¬ leaves → s.setStage k g c = follows u)) ∧
  (∀ (k : SlotId) (o : Order) (g : Stage) (c : Option Cause) (s : P60), s.activeOrder? k = some (o, g, c) →
    let paused : Prop := g = .waiting ∨ g = .held ∨ g.isDocking = true ∨ (g = .stopping ∧ c.isSome) ∨
      (s.slot k).windHold = some .stopNow ∨ (∃ f, k ∈ (s.feeder f).held) ∨ (s.slot k).status = .lost
    let timer : TimerState → P60 := fun z => s.withSlot k (fun x => { x with timer := { x.timer with state := z } })
    ((s.slot k).timer.state = .stopped → s.judgeTimer k = s) ∧
    ((s.slot k).timer.state ≠ .stopped → paused → s.judgeTimer k = timer .paused) ∧
    ((s.slot k).timer.state ≠ .stopped → ¬ paused → s.judgeTimer k = timer .running))

/-- Sections given back, released behind the transporter, handed over and adopted. A release request is without
effect for another owner's section and for one pending, at once after 2,000 ms, and deferred before. At a report of
its owner a section behind it is asked back by a CLEAR reading, and starts the proving time by any other; a CLEAR
report asks it back as well. A hand-over check grants the section to its first waiter, or asks for its throw; and a
slot adopts both sections of its position, or neither. The rear off the route: log 19; the queue left: log 34. -/
def Obligations.SectionsAreReleasedHandedOverAndAdopted : Prop :=
  (∀ (n : Byte) (who : Owner) (x : SectionRec) (s : P60), s.section? n.toNat = some x →
    (x.occ.holding? = none → s.releaseRequest n.toNat who = s) ∧
    (∀ h, x.occ.holding? = some h →
      (h.owner ≠ who ∨ h.releasePending = true → s.releaseRequest n.toNat who = s) ∧
      (h.owner = who → h.releasePending = false →
        (2000 ≤ s.elapsed h.since → s.releaseRequest n.toNat who =
          (s.withSection n (fun x => { x with occ := .releasing 3000 })).reviseWaits n.toNat .none) ∧
        (s.elapsed h.since < 2000 → s.releaseRequest n.toNat who =
          s.withSection n (fun x =>
            { x with occ := x.occ.mapHolding (fun h => { h with releasePending := true }) }))))) ∧
  (∀ (k : SlotId) (n : Byte) (x : SectionRec) (h : Holding) (o : Order) (s : P60),
    s.section? n.toNat = some x → x.occ.holding? = some h → h.owner = .slot k → s.liveOrder? k = some o →
    let i := indexIn n.toNat o.route
    let behind : Prop := h.autoRelease = true ∧ s.overlaps k n.toNat = false ∧
      if i = 0 then indexIn (s.slot k).rear.sec.toNat o.route ≠ 0 else i < (s.slot k).progress.rearIndex
    let proving : Option Nat → P60 := fun t =>
      s.withSection n (fun x => { x with occ := x.occ.mapHolding (fun h => { h with proving := t }) })
    (¬ behind → s.evaluateRelease k n.toNat = s) ∧
    (behind → x.reading = .clear →
      s.evaluateRelease k n.toNat = (proving none).releaseRequest n.toNat (.slot k)) ∧
    (behind → x.reading ≠ .clear →
      (h.proving = none → h.releasePending = false → s.evaluateRelease k n.toNat = proving (some 3000)) ∧
      (h.proving ≠ none ∨ h.releasePending = true → s.evaluateRelease k n.toNat = s))) ∧
  (∀ (address tag n : Byte) (e : Exchange) (u : FieldUnit) (x : SectionRec) (h : Holding) (k : SlotId) (o : Order)
      (s : State),
    s.p60.exchangeWith address tag .detector e u → u.num = n.toNat → s.p60.section? n.toNat = some x →
    x.occ.holding? = some h → h.owner = .slot k → s.p60.liveOrder? k = some o →
    let i := indexIn n.toNat o.route
    let behind : Prop := h.autoRelease = true ∧ s.p60.overlaps k n.toNat = false ∧
      if i = 0 then indexIn (s.p60.slot k).rear.sec.toNat o.route ≠ 0
      else i < (s.p60.slot k).progress.rearIndex
    let cleared := (s.p60.afterFieldReply e).withSection n (fun x =>
      { x with reading := .clear, occ := x.occ.mapHolding (fun h => { h with proving := none }) })
    (behind → s.takes (.detectorReport address tag .clear) (cleared.releaseRequest n.toNat (.slot k))) ∧
    (¬ behind → (∃ c, x.occ = .reserved h c) → s.takes (.detectorReport address tag .clear) cleared)) ∧
  (∀ (k : SlotId) (n : Byte) (rest : List SlotId) (x : SectionRec) (o : Order) (st : RouteStep) (s : P60),
    s.section? n.toNat = some x → x.waiters = k :: rest → s.liveOrder? k = some o →
    (s.stepsOf o).find? (fun t => t.sec == n.toNat) = some st →
    let grantable : Prop := x.occ = .free ∧ x.inhibit = false ∧ s.powered n.toNat = true ∧
      ∀ leg, st.leg = some leg → s.detectedIn n.toNat leg = true
    let u := (P60.reviseWaits (s.withSection n (fun x =>
        { x with
          occ := .reserved ⟨.slot k, some st.entry, st.leg, s.clock, true, false, none⟩ none
          waiters := x.waiters.erase k })) n.toNat (.slot k)).withSlot k (fun y =>
      { y with progress := { y.progress with wait := none } })
    let passes : Prop := (s.slot k).progress.order ≠ 0 ∧ (s.slot k).status ≠ .lost ∧ (s.slot k).held = false ∧
      ∃ g c, o.state = .active g c ∧ (g = .setting ∨ g = .running ∨ g = .waiting)
    (grantable → passes → s.handOver n.toNat = u.pass k) ∧
    (grantable → ¬ passes →
      (∀ g c, o.state = .active g c → s.handOver n.toNat = u) ∧
      (∀ g c, o.state = .suspended g c → s.handOver n.toNat =
        if (s.slot k).motion.standing = true ∧ (s.slot k).motion.releaseAhead = false then
          u.releaseRequest n.toNat (.slot k)
        else u)) ∧
    (¬ grantable → ∀ (leg : Leg) (t : TurnoutRec), st.leg = some leg → s.turnoutIn? n.toNat = some t →
      (x.occ = .free → x.inhibit = false → s.powered n.toNat = true →
        t.state = .undetected ∨ t.state = .at leg.other ∨ (∃ sl left, t.state = .moving leg.other sl left) →
        s.handOver n.toNat = (s.throwRequest t.num leg).1) ∧
      (x.occ ≠ .free ∨ x.inhibit = true ∨ s.powered n.toNat = false ∨ t.state = .failed ∨
          (∃ sl left, t.state = .moving leg sl left) →
        s.handOver n.toNat = s)) ∧
    (¬ grantable → st.leg = none → s.handOver n.toNat = s)) ∧
  (∀ (n : Nat) (x : SectionRec) (s : P60), s.section? n = some x → x.waiters = [] → s.handOver n = s) ∧
  (∀ (k : SlotId) (n : Byte) (x : SectionRec) (s : P60), s.section? n.toNat = some x →
    let left := s.withSection n (fun x => { x with waiters := x.waiters.erase k })
    (∀ j rest, x.waiters = k :: j :: rest →
      s.leaveQueue k n.toNat = { left with tasks := s.tasks ++ [n.toNat] }) ∧
    (x.waiters = [k] ∨ x.waiters.head? ≠ some k → s.leaveQueue k n.toNat = left)) ∧
  (∀ (k : SlotId) (a b : Nat) (s : P60),
    let may : Nat → Prop := fun n => ∃ x, s.section? n = some x ∧
      (x.occ = .free ∨ x.occ = .unproven ∨ x.occ = .disturbed ∨
        ∃ h, x.occ.holding? = some h ∧ h.owner = .slot k)
    (¬ (may a ∧ may b) → s.adopt? k a b = none) ∧
    (may a → may b → ∃ t, s.adopt? k a b = some t ∧ (t.slot k).overlap = some (a, b) ∧
      (∀ n x, n = a ∨ n = b → s.section? n = some x →
        (t.section? n).map (fun y => (y.occ, y.reading, y.inhibit, y.discrepancy)) =
          some (.occupied (match x.occ.holding? with
            | some h => h
            | none => ⟨.slot k, none, none, s.clock, false, false, none⟩), x.reading, x.inhibit, x.discrepancy)) ∧
      (∀ n, n ≠ a → n ≠ b → (t.section? n).map (·.occ) = (s.section? n).map (·.occ))))

/-- A standing report judged: in RUNNING by the basis and the distance to the end of authority (R123), in STOPPING
by the first of R124's five outcomes that applies, an order moved on by R125. A cut-back shortens the authority to
the first stop point the transporter can reach. The passage timer is loaded with R118's allowance, runs or pauses
by R130, is captured by R129 and stops by R132 (a STOPPED one is not captured: log 35). An order that finishes
leaves its slot by the first of R136's three cases, its records closed (an order that was SUSPENDED leaves it at once:
the model's reading, log 20), and gives its sections back in the table's order (the model's choice, log 26); a return
that a standing report owes, to a slot that has an order again by then, gives back the track alone, but for that
order's run (the model's reading, log 42). -/
def Obligations.MovementIsJudgedAtStandstill : Prop :=
  (∀ (k : SlotId) (o : Order) (c : Option Cause) (rep : PositionReport) (s : P60),
    s.activeOrder? k = some (o, .running, c) →
    let t := s.judgeStandstill k rep
    let enters : OrderState → Prop := fun st =>
      t.orders = s.orders.map (fun x => if x.id = o.id then { x with state := st } else x)
    let ends : OrderState → Prop := fun st =>
      t.orders = s.orders.map (fun x => if x.id = o.id then { x with state := st, promise := false } else x)
    (s.basis k rep = .offRoute → ends (.failed .stopOverrun)) ∧
    (s.basis k rep ≠ .offRoute → (s.slot k).authority.state = .none → enters (.active .waiting none)) ∧
    (∀ e : Eoa, s.basis k rep ≠ .offRoute →
      (s.slot k).authority.state = .given e ∨ (s.slot k).authority.state = .braked e →
      let d : Int := min (distance (s.stepsOf o) (indexIn rep.front.sec.toNat o.route) rep.front.off.toNat
        (indexIn e.sec o.route) e.off) 2000000
      (e.kind = .sectionEnd →
        (d < 0 → ends (.failed .stopOverrun)) ∧
        (0 ≤ d → d ≤ s.margin → enters (.active .waiting none)) ∧
        (s.margin < d → t = s)) ∧
      (e.kind = .padStop →
        (d < -50 → ends (.failed .stopOverrun)) ∧
        (-50 ≤ d → d ≤ 50 →
          (o.kind = .run → ends .done) ∧
          (o.kind = .fetch →
            enters (.active (if s.windInput then .dockArrive else .dockUnclamp) none)) ∧
          (o.kind = .deliver → enters (.active .dockLower none))) ∧
        (50 < d →
          ((s.slot k).motion.resent = true → t = s) ∧
          ((s.slot k).motion.resent = false → (t.slot k).motion.resent = true ∧ t.orders = s.orders ∧
            (t.slot k).authority.state = .given e ∧ (t.slot k).authority.sentCeiling = s.ceilingFor k e ∧
            ((s.slot k).ident.isSome → (s.slot k).peer.isSome → (s.slot k).status ≠ .lost →
              ((t.slot k).peer.bind (·.motion)).map (·.msg) =
                some (.authority e.sec e.off (s.ceilingFor k e)))))))) ∧
  (∀ (k : SlotId) (o : Order) (stop : Option Cause) (rep : PositionReport) (s : P60),
    s.activeOrder? k = some (o, .stopping, stop) →
    let t := s.judgeStandstill k rep
    let ends : OrderState → Prop := fun st =>
      t.orders = s.orders.map (fun x => if x.id = o.id then { x with state := st, promise := false } else x)
    let enters : OrderState → Prop := fun st =>
      t.orders = s.orders.map (fun x => if x.id = o.id then { x with state := st } else x)
    let overran : Prop := s.basis k rep = .offRoute ∨
      ∃ e, ((s.slot k).authority.state = .given e ∨ (s.slot k).authority.state = .braked e) ∧
        s.basis k rep = .curve ∧
        distance (s.stepsOf o) (indexIn rep.front.sec.toNat o.route) rep.front.off.toNat
          (indexIn e.sec o.route) e.off < match e.kind with
            | .sectionEnd => 0
            | .padStop => -50
    (overran → ends (.failed .stopOverrun)) ∧
    (¬ overran → o.interventions = 3 → ends (.failed .overspeed)) ∧
    (¬ overran → o.interventions ≠ 3 →
      (∀ c, stop = some c → enters (.suspended .setting c)) ∧
      (stop = none → (s.slot k).held = true → enters (.active .held none)) ∧
      (stop = none → (s.slot k).held = false →
        t = if (s.moveOn k).activeStage? k = some .running then (s.moveOn k).judgeStandstill k rep
          else s.moveOn k))) ∧
  (∀ (k : SlotId) (s : P60),
    let u := (s.setStage k .running none).passEvent k
    let resent : P60 → P60 := fun p => p.withSlot k (fun x => { x with motion := { x.motion with resent := true } })
    (∀ e, (u.slot k).authority.state = .given e ∨ (u.slot k).authority.state = .braked e →
      s.moveOn k = resent (u.sendAuthority k e)) ∧
    ((u.slot k).authority.state = .none → s.moveOn k = (resent u).setStage k .waiting none)) ∧
  (∀ (k : SlotId) (o : Order) (s : P60), s.liveOrder? k = some o →
    ((s.slot k).authority.state = .none → s.cutBack k = s) ∧
    (∀ e : Eoa, (s.slot k).authority.state = .given e ∨ (s.slot k).authority.state = .braked e →
      let l := s.stepsOf o
      let f := (s.slot k).figures
      let v := min 3000 (s.slot k).speed
      let fi := indexIn (s.slot k).front.sec.toNat o.route
      let ei := indexIn e.sec o.route
      let need := ceilDiv (v * v) (2 * (if s.laden k then f.ladenDecel else f.unladenDecel)) + s.margin
      let far : Nat → Int := fun j =>
        ((l.take (j + 1)).map (·.length)).sum - (coordinate l fi (s.slot k).front.off.toNat : Int)
      let stop : Nat → RouteStep → Prop := fun j t => l[j]? = some t ∧ fi ≤ j + 1 ∧ j < ei ∧ need ≤ far j ∧
        far j ≤ distance l fi (s.slot k).front.off.toNat ei e.off ∧ ¬ (j + 1 = ei ∧ e.kind = .padStop)
      let onRoute : Prop := fi ≠ 0 ∧ o.routeIndex ≤ fi ∧ (s.planSection? (s.slot k).rear.sec.toNat).isSome
      (¬ onRoute ∨ (∀ j t, ¬ stop j t) → s.cutBack k = s) ∧
      (∀ j t, onRoute → stop j t → (∀ i t', stop i t' → j ≤ i) →
        let e' : Eoa := ⟨t.sec, if t.entry = .a then t.length else 0, .sectionEnd⟩
        let u := s.withSlot k (fun x =>
          { x with progress := { x.progress with reach := j + 1, handed := some (some e') } })
        (e' = e → s.cutBack k = s) ∧
        (e' ≠ e → s.cutBack k = P60.releaseAll
          (if (s.slot k).authority.state = .braked e then
              u.withSlot k (fun x => { x with authority := { x.authority with state := .braked e' } })
            else u.sendAuthority k e')
          (((l.take (s.slot k).progress.reach).drop (j + 1)).map (·.sec)) (.slot k))))) ∧
  (∀ (k : SlotId) (o : Order) (j : Nat) (st : RouteStep) (x : PlanSection) (s : P60),
    (s.stepsOf o)[j]? = some st → s.planSection? st.sec = some x →
    let v := if j + 1 = o.route.length then 100 else min st.lineSpeed (s.vMax k)
    let loaded : TimerState → PassageTimer := fun z =>
      { (s.slot k).timer with
        state := z, sec := st.sec, period := (ceilDiv (st.length * 1250) v + x.slack + 9) / 10 * 10
        count := 0, cause := .none }
    (∀ p g c, s.activeOrder? k = some (p, g, c) →
      let paused : Prop := g = .waiting ∨ g = .held ∨ g.isDocking = true ∨ (g = .stopping ∧ c.isSome) ∨
        (s.slot k).windHold = some .stopNow ∨ (∃ f, k ∈ (s.feeder f).held) ∨ (s.slot k).status = .lost
      (paused → s.loadTimer k o (j + 1) = s.withSlot k (fun y => { y with timer := loaded .paused })) ∧
      (¬ paused → s.loadTimer k o (j + 1) = s.withSlot k (fun y => { y with timer := loaded .running })))) ∧
  (∀ (k : SlotId) (n : Nat) (o : Order) (s : P60), s.liveOrder? k = some o → o.route[o.routeIndex]? = some n →
    let u := P60.withdrawWait ({ s with
        orders := s.orders.map (fun x => if x.id = o.id then { x with routeIndex := o.routeIndex + 1 } else x)
        slots := s.slots.set k { s.slot k with progress := { (s.slot k).progress with
          reach := if (s.slot k).progress.reach < o.routeIndex + 1 then 0
            else (s.slot k).progress.reach } } }) k
    let captured := u.withSlot k (fun x =>
      { x with timer := { x.timer with last := some ⟨x.timer.sec, x.timer.count, x.timer.period⟩ } })
    s.sectionEntry k n =
      P60.passEvent
        (if (u.activeOrder? k).isSome ∧ (u.slot k).timer.state ≠ .stopped then
          captured.loadTimer k o (o.routeIndex + 1) else u) k) ∧
  (∀ (k : SlotId) (s : P60),
    s.stopTimerSuspended k = s.withSlot k (fun x =>
      { x with timer :=
        if x.timer.state = .stopped ∧ x.timer.cause = .overdue then x.timer
        else { x.timer with state := .stopped, cause := .suspended } }) ∧
    s.stopTimerFinished k = s.withSlot k (fun x =>
      { x with timer :=
        if x.timer.state = .stopped then x.timer else { x.timer with state := .stopped, cause := .finished } })) ∧
  (∀ (o : Order) (st : OrderState) (s : P60),
    let listed := P60.trigger (P60.raise { s with
        orders := s.orders.map (fun x => if x.id = o.id then { x with state := st, promise := false } else x) }
      .orderFinished)
    (o.state = .queued → s.finishOrder o st = listed) ∧
    (∀ g c, o.state = .active g c → s.finishOrder o st = listed.endOrder o.slot true) ∧
    (∀ g c, o.state = .suspended g c → s.finishOrder o st = listed.endOrder o.slot false) ∧
    (o.state.finished = true → s.finishOrder o st = s)) ∧
  (∀ (k : SlotId) (wasActive : Bool) (s : P60),
    let unhanded := (s.withdrawWait k).withSlot k (fun x =>
      { x with progress := .closed, authority := { x.authority with state := .none, sentCeiling := 0 } })
    let braked := match (s.slot k).authority.state with
      | .given _ => unhanded.hand k .motion .brake
      | _ => unhanded
    let closed := (braked.stopTimerFinished k).withSlot k (fun x =>
      { x with docking := .initial, motion := { x.motion with releaseAhead := false } })
    let owes : P60 → P60 := fun p => p.withSlot k (fun x => { x with motion := { x.motion with returnDue := true } })
    ((s.slot k).status = .lost → s.endOrder k wasActive = owes closed) ∧
    ((s.slot k).status ≠ .lost → (s.slot k).motion.standing = true ∨ wasActive = false →
      s.endOrder k wasActive = closed.returnToIdle k) ∧
    ((s.slot k).status ≠ .lost → (s.slot k).motion.standing = false → wasActive = true →
      s.endOrder k wasActive = owes (closed.withSlot k (fun x =>
        if x.status = .empty ∨ x.status = .conflict then x else { x with status := .stopping })))) ∧
  (∀ (k : SlotId) (s : P60),
    let idle : P60 :=
      if (s.slot k).status = .empty ∨ (s.slot k).status = .lost ∨ (s.slot k).status = .conflict ∨
        (s.slot k).status = .idle then s
      else P60.trigger (s.withSlot k (fun x => { x with status := .idle }))
    let own := (s.sections.filter (fun r => r.occ.owner? == some (.slot k))).map (·.num)
    let back : P60 → List Nat → P60 := fun p kept => P60.releaseAll
      ((own.filter (fun n => s.overlaps k n)).foldl (fun p n => { p with
          sections := p.sections.map (fun r =>
            if r.num = n then { r with occ := r.occ.mapHolding (fun h => { h with autoRelease := false }) }
            else r) })
        (p.withSlot k (fun x => { x with motion := { x.motion with returnDue := false } })))
      (own.filter (fun n => !s.overlaps k n && !kept.contains n)) (.slot k)
    s.returnToIdle k = back idle [] ∧
    (s.liveOrder? k = none → s.payReturn k = back idle []) ∧
    (∀ o, s.liveOrder? k = some o → s.payReturn k =
      back s ((((s.stepsOf o).take (s.slot k).progress.reach).drop (o.routeIndex - 1)).map (·.sec))))

/-- An order suspended at once (R72, R132 to R134): SUSPENDED in SETTING, or in its docking stage, with ORDER_FINISHED
raised, the wait withdrawn, the passage timer and the docking record stopped and the slot IDLE; its release ahead is
made where the slot stands, and is pending otherwise. A release ahead asks back each route section after the front's,
and no other (a front off the route: the model's reading, log 54), and lowers the reach to 0. LINK_LOST suspends at
once in every stage, a stop reason already present being the reason. A standing report pays what its slot owes: the
release ahead, the return of the track, the retry of adoption. A BRAKE request (R113), and what the link makes of a
message for a slot (R161, R164). -/
def Obligations.SuspensionsReleaseAhead : Prop :=
  (∀ (k : SlotId) (o : Order) (g : Stage) (c : Cause) (s : P60),
    let suspended := P60.raise { s with orders := s.orders.map (fun x =>
      if x.id = o.id then { x with state := .suspended (if g.isDocking then g else .setting) c } else x) }
      .orderFinished
    let stopped := ((suspended.withdrawWait k).stopTimerSuspended k).withSlot k (fun x =>
      { x with docking := { x.docking with awaiting := .none, due := .none, timer := .stopped, transmitted := false } })
    let idle := if (s.slot k).status = .empty ∨ (s.slot k).status = .lost ∨ (s.slot k).status = .conflict ∨
        (s.slot k).status = .idle then stopped
      else P60.trigger (stopped.withSlot k (fun x => { x with status := .idle }))
    ((s.slot k).motion.standing = true → s.suspendNow k o g c = idle.releaseAheadNow k) ∧
    ((s.slot k).motion.standing = false → s.suspendNow k o g c = idle.withSlot k (fun x =>
      { x with motion := { x.motion with releaseAhead := true } }))) ∧
  (∀ (k : SlotId) (o : Order) (s : P60), s.liveOrder? k = some o →
    let fi := indexIn (s.slot k).front.sec.toNat o.route
    let ahead := if fi = 0 then [] else ((s.stepsOf o).drop fi).map (·.sec)
    s.releaseAheadNow k = P60.lowerReach ((s.withSlot k (fun x =>
      { x with motion := { x.motion with releaseAhead := false } })).releaseAll ahead (.slot k)) k 0) ∧
  (∀ (k : SlotId) (s : P60), s.liveOrder? k = none → s.releaseAheadNow k = s) ∧
  (∀ (l : List Nat) (who : Owner) (s : P60), s.releaseAll l who = l.foldl (fun p n => p.releaseRequest n who) s) ∧
  (∀ (k : SlotId) (s : P60),
    (s.activeOrder? k = none → s.linkLost k = s) ∧
    (∀ o g c, s.activeOrder? k = some (o, g, some c) → s.linkLost k = s.suspendNow k o g c) ∧
    (∀ o g, s.activeOrder? k = some (o, g, none) → s.linkLost k = s.suspendNow k o g .linkLost)) ∧
  (∀ (k : SlotId) (s : P60),
    let gone : P60 → P60 := fun p => p.withSlot k (fun x => { x with progress := { x.progress with wait := none } })
    ((∀ x ∈ s.sections, k ∉ x.waiters) → s.withdrawWait k = gone s) ∧
    (∀ a b x, s.sections = a ++ x :: b → (∀ y ∈ a, k ∉ y.waiters) → k ∈ x.waiters →
      s.withdrawWait k = gone (s.leaveQueue k x.num))) ∧
  (∀ (k : SlotId) (s : P60),
    let released := if (s.slot k).motion.releaseAhead then s.releaseAheadNow k else s
    let returned := if (released.slot k).motion.returnDue then released.payReturn k else released
    s.payStandstill k = returned.retryAdoption k) ∧
  (∀ (k : SlotId) (s : P60),
    let asked := (s.withSlot k (fun x =>
      { x with
        authority := { x.authority with
          state := match x.authority.state with
            | .given e => .braked e
            | st => st } })).hand k .motion .brake
    ((∃ o c, s.activeOrder? k = some (o, .running, c)) → s.brakeRequest k = asked.setStage k .stopping none) ∧
    ((∀ o c, s.activeOrder? k ≠ some (o, .running, c)) → s.brakeRequest k = asked)) ∧
  (∀ (k : SlotId) (place : PlaceName) (m : PeerMsg) (s : P60),
    ((s.slot k).ident = none ∨ (s.slot k).peer = none → s.hand k place m = s) ∧
    (∀ i p, (s.slot k).ident = some i → (s.slot k).peer = some p →
      let placed : Peer :=
        { p.set (some ⟨m, nextTag p.lastTag, false, none⟩) place with lastTag := nextTag p.lastTag }
      ((s.slot k).status ≠ .lost → s.hand k place m = s.withSlot k (fun x => { x with peer := some placed })) ∧
      ((s.slot k).status = .lost → m = .brake →
        s.hand k place m = P60.withSlot { s with out := s.out ++ [peerFrame i (nextTag p.lastTag) .brake] } k
          (fun x => { x with peer := some { p with lastTag := nextTag p.lastTag } })) ∧
      ((s.slot k).status = .lost → m ≠ .brake → s.hand k place m = s)))

/-- A passage that is overdue, at the end of its timer's rest (log 2): the timer stops with cause OVERDUE, its count
at the period, BRAKE is requested, so that no authority of the slot stays GIVEN, the order takes the suspension cause
OVERDUE by its stage, and OVERDUE is raised. The stage timer's end fails an order that is ACTIVE in docking:
LIFT_TIMEOUT in DOCK_LIFT and DOCK_LOWER, PAD_TIMEOUT in the other docking stages. -/
def Obligations.OverdueAndStageTimersRunOut : Prop :=
  (∀ (k : SlotId) (s : State), (s.p60.slot k).timer.state = .running →
    let t := (s.p60.slot k).timer
    let u := (s.p60.advance (t.period - t.count)).begun.withSlot k (fun x =>
      { x with timer := { x.timer with state := .stopped, cause := .overdue, count := t.period } })
    let e := P60.raise ((u.brakeRequest k).suspensionCause k .overdue) .overdue
    s.takesAndSettles (.passageOverdue k) e ∧
      (e.slot k).timer = { t with state := .stopped, cause := .overdue, count := t.period } ∧
      (∀ a, (e.slot k).authority.state ≠ .given a) ∧
      e.counts.overdue = min 255 (s.p60.counts.overdue + 1) ∧
      (s.p60.activeOrder? k = none → e.orders = s.p60.orders) ∧
      (∀ o g c, s.p60.activeOrder? k = some (o, g, c) →
        let becomes : OrderState → Prop := fun st =>
          e.orders = s.p60.orders.map (fun x => if x.id = o.id then { x with state := st } else x)
        (g = .running ∨ (g = .stopping ∧ c = none) → becomes (.active .stopping (some .overdue))) ∧
        (g = .stopping → c.isSome → e.orders = s.p60.orders) ∧
        (g = .setting ∨ g = .waiting ∨ g = .held → becomes (.suspended .setting .overdue)) ∧
        (g.isDocking = true → becomes (.suspended g .overdue)) ∧
        (g ≠ .running → g ≠ .stopping →
          e.counts.orderFinished = min 255 (s.p60.counts.orderFinished + 1)))) ∧
  (∀ (k : SlotId) (left : Nat) (o : Order) (g : Stage) (c : Option Cause) (s : State),
    (s.p60.slot k).docking.timer = .running left → s.p60.activeOrder? k = some (o, g, c) →
    g.isDocking = true →
    ∃ e, s.takesAndSettles (.stageTimerExpiry k) e ∧
      e.orders = s.p60.orders.map (fun x =>
        if x.id = o.id then
          { x with
            state := .failed (if g = .dockLift ∨ g = .dockLower then .liftTimeout else .padTimeout)
            promise := false }
        else x) ∧
      (e.slot k).docking = Docking.initial)

/-! ## Pads and telescopes -/

/-- LOCK_PAD hands PAD_LOCK for the pad's clamp to the field link's command queue, in the place of the unit's unsent
message or at the tail (R200), and is refused BAD_STATE while an order is in
docking at the pad. PLACE_TELESCOPE, while no transfer is written: no change is answered OK at once, whatever the
location; a pad that is held or promised, and a slot that is laden, are refused; UNPLACED, a free pad of the plan
and a bound slot that is not laden are written; and the write's end records the location, has the slots' holds
judged again by the new load states, and answers the request OK, writes ending in the order they began (the model's
choice, log 5). While a transfer is written the request waits (log 52). -/
def Obligations.LockPadAndPlaceTelescope : Prop :=
  (∀ (tag n : Byte) (d : PlanPad) (s : State), tag ≠ 0 → s.p60.turnOf ⟨tag, 0x38, [n]⟩ →
    s.p60.hasPad n d →
    ((∃ o ∈ s.p60.orders, o.pad = n.toNat ∧ (∃ g, o.state.stage? = some g ∧ g.isDocking = true)) →
      s.refuses (.lockPad tag n) ⟨tag, 0x38, [n]⟩ .badState []) ∧
    ((∀ o ∈ s.p60.orders, o.pad = n.toNat → ∀ g, o.state.stage? = some g → g.isDocking = false) →
      s.serves (.lockPad tag n) ⟨tag, 0x38, [n]⟩
        ((s.p60.withHead ⟨tag, 0x38, [n]⟩).commandTo .pad n.toNat .padLock) [] ∧
      ∀ a b u, s.p60.units = a ++ u :: b → (∀ v ∈ a, ¬ (v.kind = .pad ∧ v.num = n.toNat)) → u.kind = .pad →
        u.num = n.toNat →
        (s.p60.withHead ⟨tag, 0x38, [n]⟩).commandTo .pad n.toNat .padLock =
          { s.p60.withHead ⟨tag, 0x38, [n]⟩ with
            commands :=
              if ∃ e ∈ s.p60.commands, e.1 = u.address then
                s.p60.commands.map (fun e => if e.1 = u.address then (u.address, .padLock) else e)
              else s.p60.commands ++ [(u.address, .padLock)] })) ∧
  (∀ (tag t : Byte) (target : PlaceTarget) (s : State), tag ≠ 0 → target.wf = true → 1 ≤ t.toNat →
    t.toNat ≤ 64 → s.p60.turnOf ⟨tag, 0x39, [t] ++ targetBytes target⟩ → s.p60.transferring = false →
    let r : Request := ⟨tag, 0x39, [t] ++ targetBytes target⟩
    let c := Instr.placeTelescope tag t target
    (∀ o ∈ s.p60.orders, o.state.live = true → o.telescope ≠ t.toNat) →
    s.p60.busyWith (s.p60.location t.toNat) = false →
    (target = .unplaced → s.p60.location t.toNat = .unplaced → s.serves c r (s.p60.withHead r) []) ∧
    (target = .unplaced → s.p60.location t.toNat ≠ .unplaced →
      s.takes c { s.p60.withHead r with writes := s.p60.writes ++ [.place t.toNat .unplaced] }) ∧
    (∀ n d, target = .pad n → s.p60.hasPad n d →
      (s.p60.location t.toNat = .pad n.toNat → s.serves c r (s.p60.withHead r) []) ∧
      (s.p60.location t.toNat ≠ .pad n.toNat →
        ((s.p60.holder? n.toNat).isSome → s.refuses c r .badState []) ∧
        (s.p60.holder? n.toNat = none → (s.p60.promisedTo? n.toNat).isSome →
          s.refuses c r .padPromised []) ∧
        (s.p60.holder? n.toNat = none → s.p60.promisedTo? n.toNat = none →
          s.takes c { s.p60.withHead r with
            writes := s.p60.writes ++ [.place t.toNat (.pad n.toNat)] }))) ∧
    (∀ n k i, target = .transporter n → slotOf n = some k → s.p60.liveOrder? k = none →
      (s.p60.slot k).ident = some i →
      (s.p60.location t.toNat = .transporter i → s.serves c r (s.p60.withHead r) []) ∧
      (s.p60.location t.toNat ≠ .transporter i →
        (s.p60.laden k = true → s.refuses c r .badState []) ∧
        (s.p60.laden k = false →
          s.takes c { s.p60.withHead r with
            writes := s.p60.writes ++ [.place t.toNat (.transporter i)] })))) ∧
  (∀ (t : Nat) (l : Location) (rest : List NvmWrite) (s : State), 1 ≤ t → t ≤ 64 →
    s.p60.writes = .place t l :: rest →
    (∃ p, exec .nvmWriteComplete s = .next { s with p60 := p } ∧ p.writes = rest ∧
      ∀ x, 1 ≤ x → x ≤ 64 → p.location x = if x = t then l else s.p60.location x) ∧
    ∀ r behind, s.p60.requests = r :: behind →
      s.servesAndSettles .nvmWriteComplete r (P60.transfer { s.p60.begun with writes := rest } t l) [])

/-! ## Storage, the roster -/

/-- The ends of the writes that requests wait for: the inhibits, the acceptance list and the policies are stored,
the list being in force from then on (log 6), and the request at the queue's head is answered OK; the oldest write
ends, whatever others have begun behind it (the model's choice, log 5). SET_ACCEPTANCE begins such a write unless the
list is longer than 24 or holds an entry that selects no field; QUERY_ACCEPTANCE returns the list. -/
def Obligations.StorageKeepsWhatIsSet : Prop :=
  (∀ (w : NvmWrite) (n : Nvm) (fields : List Byte) (rest : List NvmWrite) (r : Request) (behind : List Request)
      (s : State),
    (∃ set changed, w = .inhibits set changed ∧ n = { s.p60.nvm with inhibits := set } ∧ fields = b1 changed) ∨
      (∃ l, w = .acceptance l ∧ n = { s.p60.nvm with acceptance := l } ∧ fields = []) ∨
      (∃ a b, w = .policies a b ∧ n = { s.p60.nvm with ladenPolicy := a, unladenPolicy := b } ∧ fields = []) →
    s.p60.writes = w :: rest → s.p60.requests = r :: behind →
    ∃ u, exec .nvmWriteComplete s = .next { s with p60 := P60.answer u r ⟨.ok, fields⟩ } ∧
      { s.p60.begun with writes := rest, nvm := n }.linksOnly u) ∧
  (∀ (tag : Byte) (l : List AcceptEntry) (s : State), (Instr.setAcceptance tag l).wf = true →
    let r : Request := ⟨tag, 0x40, bList (l.map acceptBytes)⟩
    s.p60.turnOf r →
    (24 < l.length → s.refuses (.setAcceptance tag l) r .outOfRange [0]) ∧
    (∀ (a b : List AcceptEntry), l.length ≤ 24 → l = a ++ ⟨none, none, none⟩ :: b →
      ⟨none, none, none⟩ ∉ a →
      s.refuses (.setAcceptance tag l) r .outOfRange (b1 (a.length + 1))) ∧
    (l.length ≤ 24 → ⟨none, none, none⟩ ∉ l →
      s.takes (.setAcceptance tag l) { s.p60.withHead r with
        writes := s.p60.writes ++ [.acceptance l] })) ∧
  (∀ (tag : Byte) (s : State), tag ≠ 0 → s.p60.turnOf ⟨tag, 0x41, []⟩ → s.p60.transferring = false →
    exec (.queryAcceptance tag) s = .next (s.replied ⟨tag, 0x41, []⟩ .ok
      (b1 s.p60.nvm.acceptance.length ++ s.p60.nvm.acceptance.flatMap acceptBytes)))

/-- The end of a transfer's write, the oldest one (the model's choice, log 5), moves custody: at LIFTED to the
transporter's identity, and then an order still live is DONE; at LOWERED to the pad, the order's promise freed, and
then an ACTIVE order goes on to DOCK_CLAMP, with PAD_LOCK handed to the pad's clamp, never withheld, and LOCKED awaited
for 20,000 ms, and a SUSPENDED one keeps its reason in
DOCK_CLAMP (an order suspended or finished while its transfer is written: log 18). The slot, still bound to that
identity, has the load reported, and the slots' holds are judged again by the new load states, by slot number (the
model's choice, log 26). The docking stages: what an arrival and the end of DOCK_UNCLAMP
send, or withhold while the wind-hold input is asserted; what the input's deassertion sends; and what a resumption
sends again, at its full limit. -/
def Obligations.TransfersMoveCustody : Prop :=
  (∀ (k : SlotId) (i : Identity) (id t : Nat) (rest : List NvmWrite) (s : State), 1 ≤ t → t ≤ 64 →
    s.p60.writes = .lifted k i id t :: rest →
    let ended : P60 := { s.p60.begun with writes := rest }
    let p := P60.transfer (if (s.p60.slot k).ident = some i then
      ended.withSlot k (fun x => { x with reportedLoad := true }) else ended) t (.transporter i)
    p.writes = rest ∧
      (∀ x, 1 ≤ x → x ≤ 64 → p.location x = if x = t then .transporter i else s.p60.location x) ∧
      s.takesAndSettles .nvmWriteComplete (match p.order? id with
        | none => p
        | some o => if o.state.live then p.finishOrder o .done else p)) ∧
  (∀ (k : SlotId) (i : Identity) (id t pad : Nat) (rest : List NvmWrite) (s : State), 1 ≤ t → t ≤ 64 →
    s.p60.writes = .lowered k i id t pad :: rest →
    let ended : P60 := { s.p60.begun with writes := rest }
    let u := P60.transfer (if (s.p60.slot k).ident = some i then
      ended.withSlot k (fun x => { x with reportedLoad := false }) else ended) t (.pad pad)
    let p : P60 := { u with
      orders := u.orders.map (fun x => if x.id = id then { x with promise := false } else x) }
    p.writes = rest ∧
      (∀ x, 1 ≤ x → x ≤ 64 → p.location x = if x = t then .pad pad else s.p60.location x) ∧
      s.takesAndSettles .nvmWriteComplete (match p.order? id with
        | none => p
        | some o =>
          match o.state with
          | .active _ _ => p.sendPadLock k
          | .suspended _ c => p.setOrderState o.id (.suspended .dockClamp c)
          | _ => p)) ∧
  (∀ (t : Nat) (l : Location) (s : P60), s.transfer t l =
    ([0, 1, 2, 3, 4, 5] : List SlotId).foldl P60.rejudgeHold (s.setLocation t l)) ∧
  (∀ (k : SlotId) (s : P60), ((s.sendPadLock k).slot k).docking.awaiting = .locked ∧
    ((s.slot k).status ≠ .lost → ((s.sendPadLock k).slot k).docking.timer = .running 20000)) ∧
  (∀ (k : SlotId) (o : Order) (s : P60), s.liveOrder? k = some o →
    let enters : P60 → Stage → Prop := fun t g =>
      t.orders = s.orders.map (fun x => if x.id = o.id then { x with state := .active g none } else x)
    let awaits : P60 → Awaiting → Nat → Prop := fun t a n => (t.slot k).docking.awaiting = a ∧
      (t.slot k).docking.due = .none ∧ (t.slot k).docking.transmitted = false ∧
      ((s.slot k).status ≠ .lost → (t.slot k).docking.timer = .running n)
    let withholds : P60 → CommandDue → Prop := fun t c => (t.slot k).docking.awaiting = .none ∧
      (t.slot k).docking.due = c ∧ (t.slot k).docking.timer = .stopped
    let sends : P60 → PeerMsg → Prop := fun t m =>
      (s.slot k).ident.isSome → (s.slot k).peer.isSome → (s.slot k).status ≠ .lost →
        ((t.slot k).peer.bind (·.docking)).map (·.msg) = some m
    let clamps : P60 → FieldMsg → Prop := fun t m =>
      t.commands = (s.commandTo .pad (s.slot k).docking.pad m).commands
    (let t := s.sendPadLock k
     enters t .dockClamp ∧ awaits t .locked 20000 ∧ clamps t .padLock) ∧
    (s.windInput = false →
      (let t := s.padUnlockOrWait k
       enters t .dockUnclamp ∧ awaits t .unlocked 20000 ∧ clamps t .padUnlock) ∧
      (let t := s.padUnlockAgain k
       enters t .dockUnclamp ∧ awaits t .unlocked 20000 ∧ clamps t .padUnlock) ∧
      (let t := s.liftOrWait k
       enters t .dockLift ∧ awaits t .lifted 90000 ∧ sends t .lift) ∧
      (let t := s.lowerOrWait k
       enters t .dockLower ∧ awaits t .lowered 90000 ∧ sends t .lower)) ∧
    (s.windInput = true →
      (let t := s.padUnlockOrWait k
       enters t .dockArrive ∧ withholds t .padUnlock ∧ t.commands = s.commands) ∧
      (let t := s.padUnlockAgain k
       enters t .dockUnclamp ∧ withholds t .padUnlock ∧ t.commands = s.commands) ∧
      (let t := s.liftOrWait k
       enters t .dockLift ∧ withholds t .lift ∧ (t.slot k).peer = (s.slot k).peer) ∧
      (let t := s.lowerOrWait k
       enters t .dockLower ∧ withholds t .lower ∧ (t.slot k).peer = (s.slot k).peer)) ∧
    (o.kind = .fetch → s.beginDocking k o = s.padUnlockOrWait k) ∧
    (o.kind = .deliver → s.beginDocking k o = s.lowerOrWait k) ∧
    s.arrive k o = P60.beginDocking ((s.setStage k .dockArrive none).withSlot k (fun x =>
      { x with docking := { Docking.initial with order := o.id, pad := o.pad } })) k o ∧
    (∀ c, (s.slot k).docking.due = c → s.sendDue k = match c with
      | .none => s
      | .padUnlock => s.sendPadUnlock k
      | .lift => s.sendLift k
      | .lower => s.sendLower k) ∧
    (s.sendAllDue = ([0, 1, 2, 3, 4, 5] : List SlotId).foldl (fun p j =>
      if (p.activeOrder? j).isSome ∧ (p.slot j).status ≠ .lost then p.sendDue j else p) s) ∧
    (∀ g, s.outsideWindow k o = true → s.resumeDocking k o g = s.displaced k) ∧
    (s.outsideWindow k o = false →
      s.resumeDocking k o .dockArrive = s.beginDocking k o ∧
      s.resumeDocking k o .dockUnclamp = s.padUnlockAgain k ∧
      s.resumeDocking k o .dockLift = s.liftOrWait k ∧
      s.resumeDocking k o .dockLower = s.lowerOrWait k ∧
      s.resumeDocking k o .dockClamp = s.sendPadLock k)) ∧
  (∀ (k : SlotId) (o : Order) (d : PlanPad) (x : PlanSection) (s : P60), s.planPad? o.pad = some d →
    s.planSection? d.spur = some x →
    (s.outsideWindow k o = false ↔ (s.slot k).front.sec.toNat = d.spur ∧
      (-50 : Int) ≤ d.stopOffset - min (s.slot k).front.off.toNat x.length ∧
      (d.stopOffset : Int) - min (s.slot k).front.off.toNat x.length ≤ 50))

/-- RELEASE_SLOT frees a slot that is LOST, in CONFLICT or IDLE: STAND_DOWN is sent once unless it is LOST, its
order is FAILED(SLOT_RELEASED), and its record is EMPTY's; any other slot is refused BAD_STATE. That STAND_DOWN is
the only message, no BRAKE going with the order's end, is the model's reading (log 36), and so is its tag (log 61).
Freeing a slot (R174): its order fails with ORDER_FINISHED and a scan, each section it owns is asked back, in the
table's order (log 26), its wait is withdrawn from its queue (R102), its record is EMPTY's, it leaves every feeder's
held set (R184), and it joins the change set (R173).
CLEAR_SLOT_FAULT clears the fault flag and triggers a scan, unless a load mismatch still stands. -/
def Obligations.ReleaseSlotAndClearSlotFault : Prop :=
  (∀ (tag n : Byte) (k : SlotId) (s : State), tag ≠ 0 → slotOf n = some k → s.p60.turnOf ⟨tag, 0x45, [n]⟩ →
    ((s.p60.slot k).status = .lost ∨ (s.p60.slot k).status = .conflict ∨ (s.p60.slot k).status = .idle →
      ∃ e, s.servesAndSettles (.releaseSlot tag n) ⟨tag, 0x45, [n]⟩ e [] ∧ e.slot k = Slot.initial ∧
        (∀ o, s.p60.liveOrder? k = some o →
          e.orders = s.p60.orders.map (fun x =>
            if x.id = o.id then { x with state := .failed .slotReleased, promise := false } else x)) ∧
        (∀ i p, (s.p60.slot k).ident = some i → (s.p60.slot k).peer = some p →
          e.out = if (s.p60.slot k).status = .lost then []
            else [peerFrame i (nextTag p.lastTag) .standDown]) ∧
        (∀ l, s.p60.changeSet = some l → ∃ l', e.changeSet = some l' ∧ k ∈ l') ∧
        e = P60.freeSlot { s.p60.withHead ⟨tag, 0x45, [n]⟩ with
          out := match (s.p60.slot k).ident, (s.p60.slot k).peer with
            | some i, some p =>
              if (s.p60.slot k).status = .lost then [] else [peerFrame i (nextTag p.lastTag) .standDown]
            | _, _ => [] } k) ∧
    ((s.p60.slot k).status ≠ .lost → (s.p60.slot k).status ≠ .conflict → (s.p60.slot k).status ≠ .idle →
      s.refuses (.releaseSlot tag n) ⟨tag, 0x45, [n]⟩ .badState [])) ∧
  (∀ (k : SlotId) (s : P60),
    let failed : P60 := match s.liveOrder? k with
      | none => s
      | some o => P60.trigger (P60.raise { s with orders := s.orders.map (fun x =>
          if x.id = o.id then { x with state := .failed .slotReleased, promise := false } else x) } .orderFinished)
    let owned : List Nat := (s.sections.filter (fun r => r.occ.owner? == some (.slot k))).map (·.num)
    let released : P60 := (owned.foldl (fun p n => p.releaseRequest n (.slot k)) failed).withdrawWait k
    s.freeSlot k = P60.joinChangeSet { released with
      slots := released.slots.set k Slot.initial
      feeders := released.feeders.map (fun f => { f with held := f.held.erase k }) } k ∧
    (s.sections.Pairwise (fun x y => k ∉ x.waiters ∨ k ∉ y.waiters) →
      (s.freeSlot k).sections.map (fun x => (x.num, x.waiters)) =
        s.sections.map (fun x => (x.num, x.waiters.erase k))) ∧
    (∀ f, ((s.freeSlot k).feeder f).held = (s.feeder f).held.erase k) ∧ (s.freeSlot k).slot k = Slot.initial) ∧
  (∀ (tag n : Byte) (k : SlotId) (s : State), tag ≠ 0 → slotOf n = some k → s.p60.turnOf ⟨tag, 0x46, [n]⟩ →
    ((s.p60.slot k).status = .empty →
      s.refuses (.clearSlotFault tag n) ⟨tag, 0x46, [n]⟩ .badState []) ∧
    ((s.p60.slot k).status ≠ .empty → (s.p60.slot k).fault = none →
      s.serves (.clearSlotFault tag n) ⟨tag, 0x46, [n]⟩ (s.p60.withHead ⟨tag, 0x46, [n]⟩) []) ∧
    ((s.p60.slot k).status ≠ .empty → (s.p60.slot k).fault = some .loadMismatch →
      (s.p60.slot k).reportedLoad ≠ s.p60.laden k →
      s.refuses (.clearSlotFault tag n) ⟨tag, 0x46, [n]⟩ .badState []) ∧
    ((s.p60.slot k).status ≠ .empty → (s.p60.slot k).fault ≠ none →
      (s.p60.slot k).fault = some .transporterFault ∨ (s.p60.slot k).reportedLoad = s.p60.laden k →
      s.servesAndSettles (.clearSlotFault tag n) ⟨tag, 0x46, [n]⟩
        { (s.p60.withHead ⟨tag, 0x46, [n]⟩).withSlot k (fun x => { x with fault := none }) with
          scanDue := true } []))

/-! ## Holds, feeders and stops -/

/-- KEEPALIVE restarts an ARMED or EXPIRED silence timer, a pending period becoming the applied one, and brings a
scan from EXPIRED; UNARMED it only notes the time. ARM_SILENCE clamps the period to 1,000..60,000 ms and rounds it
up to 10 ms; it arms an UNARMED timer with it and makes it the pending period of any other. -/
def Obligations.SilenceTimerRequests : Prop :=
  (∀ (tag : Byte) (s : State), tag ≠ 0 → s.p60.turnOf ⟨tag, 0x04, []⟩ →
    let t := s.p60.silence
    let n := t.pending.getD t.applied
    let restarted : P60 := { s.p60.withHead ⟨tag, 0x04, []⟩ with
      silence := ⟨.armed, n, none, n, some s.p60.clock⟩ }
    (t.state = .unarmed →
      s.serves (.keepalive tag) ⟨tag, 0x04, []⟩
        { s.p60.withHead ⟨tag, 0x04, []⟩ with silence := { t with lastKeepalive := some s.p60.clock } }
        (b1 1 ++ b4 t.applied)) ∧
    (t.state = .armed → s.serves (.keepalive tag) ⟨tag, 0x04, []⟩ restarted (b1 2 ++ b4 n)) ∧
    (t.state = .expired →
      s.servesAndSettles (.keepalive tag) ⟨tag, 0x04, []⟩ { restarted with scanDue := true } (b1 2 ++ b4 n))) ∧
  (∀ (tag : Byte) (p : Word) (s : State), tag ≠ 0 → s.p60.turnOf ⟨tag, 0x05, b4 p.toNat⟩ →
    let n := (max 1000 (min 60000 p.toNat) + 9) / 10 * 10
    (s.p60.silence.state = .unarmed →
      s.serves (.armSilence tag p) ⟨tag, 0x05, b4 p.toNat⟩
        { s.p60.withHead ⟨tag, 0x05, b4 p.toNat⟩ with
          silence := { s.p60.silence with state := .armed, applied := n, remaining := n } }
        (b4 n ++ b1 2)) ∧
    (s.p60.silence.state ≠ .unarmed →
      s.serves (.armSilence tag p) ⟨tag, 0x05, b4 p.toNat⟩
        { s.p60.withHead ⟨tag, 0x05, b4 p.toNat⟩ with
          silence := { s.p60.silence with pending := some n } }
        (b4 n ++ b1 s.p60.silence.state.code)))

/-- The silence timer's expiry, before which the rest of its time passes (the model's choice, log 2), and the
emergency stop's assertion in NORMAL each request ALL_STOP, leave no
authority GIVEN and hand their cause, SILENCE or ESTOP, to every slot's order, in the order of the slots' numbers
(log 26), each of which takes it by its stage; the expiry makes the timer EXPIRED and raises SILENCE_STOP, the
assertion makes the unit ESTOP; a deassertion changes nothing but the line. An ALL_STOP request
broadcasts the first of three sendings, 100 ms apart, brakes every GIVEN authority and empties each motion place that
holds an AUTHORITY, an attempt in flight staying so (R113, R159). RESET_STOP: refused BAD_STATE while the
input is asserted or the unit is in NORMAL; otherwise the unit returns to NORMAL, each FREE section with waiters on
an ENABLED feeder is owed a hand-over check, in the order of feeders and sections (log 26, log 9), and a scan is
triggered. -/
def Obligations.StopsBrakeAndAreReset : Prop :=
  (∀ s : State, s.p60.silence.state = .armed →
    ∃ e p, s.takesAndSettles .silenceExpiry e ∧ e = P60.raise p .silenceStop ∧
      p = ([0, 1, 2, 3, 4, 5] : List SlotId).foldl (fun q k => q.suspensionCause k .silence)
        (P60.allStopRequest { (s.p60.advance s.p60.silence.remaining).begun with
          silence := { s.p60.silence with state := .expired, remaining := 0 } }) ∧
      e.silence = { s.p60.silence with state := .expired, remaining := 0 } ∧ e.allStop = some ⟨2, 100⟩ ∧
      allStopFrame ∈ e.out ∧ (∀ k a, (e.slot k).authority.state ≠ .given a) ∧ e.estop = s.p60.estop) ∧
  (∀ s : State, s.p60.estop = false →
    ∃ e, s.takesAndSettles .emergencyStopAsserted e ∧ e.estop = true ∧ e.estopInput = true ∧
      e = ([0, 1, 2, 3, 4, 5] : List SlotId).foldl (fun q k => q.suspensionCause k .estop)
        (P60.allStopRequest { s.p60.begun with estopInput := true, estop := true }) ∧
      e.allStop = some ⟨2, 100⟩ ∧ allStopFrame ∈ e.out ∧
      (∀ k a, (e.slot k).authority.state ≠ .given a) ∧ e.feeders = s.p60.feeders) ∧
  (∀ (k : SlotId) (c : Cause) (s : P60),
    (s.activeOrder? k = none → s.suspensionCause k c = s) ∧
    (∀ (o : Order) (g : Stage) (stop : Option Cause), s.activeOrder? k = some (o, g, stop) →
      let t := s.suspensionCause k c
      let enters : OrderState → Prop := fun st =>
        t.orders = s.orders.map (fun x => if x.id = o.id then { x with state := st } else x)
      (g = .running ∨ (g = .stopping ∧ stop = none) → enters (.active .stopping (some c))) ∧
      (g = .stopping → stop ≠ none → t = s) ∧
      (g = .setting ∨ g = .waiting ∨ g = .held → enters (.suspended .setting c) ∧
        t.counts.orderFinished = min 255 (s.counts.orderFinished + 1)) ∧
      (g.isDocking = true → enters (.suspended g c) ∧
        t.counts.orderFinished = min 255 (s.counts.orderFinished + 1)))) ∧
  (∀ s : P60, s.allStopRequest = { s with
    out := s.out ++ [allStopFrame]
    allStop := some ⟨2, 100⟩
    slots := s.slots.map (fun x =>
      { x with
        authority := { x.authority with
          state := match x.authority.state with
            | .given e => .braked e
            | st => st }
        peer := x.peer.map (fun p =>
          { p with motion := match p.motion with
            | some ⟨.authority _ _ _, _, _, _⟩ => none
            | m => m }) }) }) ∧
  (∀ s : State, s.p60.estop = true →
    s.takes .emergencyStopAsserted { s.p60.begun with estopInput := true }) ∧
  (∀ s : State, exec .emergencyStopDeasserted s =
    .next { s with p60 := { s.p60 with out := [], estopInput := false } }) ∧
  (∀ (tag : Byte) (s : State), tag ≠ 0 → s.p60.turnOf ⟨tag, 0x4A, []⟩ →
    (s.p60.estopInput = true ∨ s.p60.estop = false →
      s.refuses (.resetStop tag) ⟨tag, 0x4A, []⟩ .badState []) ∧
    (s.p60.estopInput = false → s.p60.estop = true →
      s.servesAndSettles (.resetStop tag) ⟨tag, 0x4A, []⟩
        { s.p60.withHead ⟨tag, 0x4A, []⟩ with
          estop := false
          scanDue := true
          tasks := (([0, 1, 2, 3] : List FeederId).filter (fun f => (s.p60.feeder f).state == .enabled)).flatMap
            (fun f => (s.p60.sections.filter (fun x =>
              x.occ == .free && !x.waiters.isEmpty &&
                ((s.p60.planSection? x.num).map (·.feeder) == some f))).map (·.num)) } []))

/-- A feeder's overcurrent input: an assertion with the output on is a trip, counted within 60,000 ms of the
first, the third bringing LOCKOUT, and each slot whose overlap includes a section of the feeder joins its held set
(R184), braked, in the order of the slots' numbers (the model's choice, log 26); with the output off it is TRIPPED
uncounted; a deassertion of a TRIPPED feeder starts the restore
timer. -/
def Obligations.OvercurrentTripsTheFeeder : Prop :=
  (∀ (f : FeederId) (s : State), (s.p60.feeder f).input = false →
    ((s.p60.feeder f).state = .enabled → s.p60.estop = false →
      let standsOver : P60 → SlotId → Prop := fun p k => ∃ a b x, (p.slot k).overlap = some (a, b) ∧
        (p.planSection? a = some x ∨ p.planSection? b = some x) ∧ x.feeder = f
      ∃ joins : P60 → SlotId → P60,
        (∀ p k, (standsOver p k → joins p k = p.joinHeld k f) ∧ (¬ standsOver p k → joins p k = p)) ∧
        s.takesAndSettles (.feederOvercurrentAsserted f)
          (([0, 1, 2, 3, 4, 5] : List SlotId).foldl joins (s.p60.begun.withFeeder f (fun x =>
            if x.trips = 0 ∨ 60000 < s.p60.elapsed x.firstTrip then ⟨.tripped, true, s.p60.clock, 1, x.held⟩
            else if x.trips = 1 then ⟨.tripped, true, x.firstTrip, 2, x.held⟩
            else ⟨.lockout, true, x.firstTrip, 3, x.held⟩)))) ∧
    ((s.p60.feeder f).state = .enabled ∧ s.p60.estop = true ∨ (∃ n, (s.p60.feeder f).state = .restoring n) ∨
        (∃ n, (s.p60.feeder f).state = .starting n) ∨ (s.p60.feeder f).state = .tripped →
      s.takes (.feederOvercurrentAsserted f)
        (s.p60.begun.withFeeder f (fun x => { x with state := .tripped, input := true }))) ∧
    ((s.p60.feeder f).state = .lockout →
      s.takes (.feederOvercurrentAsserted f) (s.p60.begun.withFeeder f (fun x => { x with input := true })))) ∧
  (∀ (f : FeederId) (s : State), (s.p60.feeder f).input = true →
    ((s.p60.feeder f).state = .tripped →
      s.takes (.feederOvercurrentDeasserted f)
        (s.p60.begun.withFeeder f (fun x => { x with state := .restoring 1500, input := false }))) ∧
    ((s.p60.feeder f).state ≠ .tripped →
      s.takes (.feederOvercurrentDeasserted f) (s.p60.begun.withFeeder f (fun x => { x with input := false })))) ∧
  (∀ (k : SlotId) (f : FeederId) (s : P60),
    (k ∈ (s.feeder f).held → s.joinHeld k f = s) ∧
    (k ∉ (s.feeder f).held → (s.joinHeld k f =
        ((s.withFeeder f (fun x => { x with held := x.held ++ [k] })).rejudgeHold k).brakeRequest k) ∧
      k ∈ ((s.joinHeld k f).feeder f).held ∧ ∀ a, ((s.joinHeld k f).slot k).authority.state ≠ .given a))

/-- The restore timer's end and RESET_FEEDER make a feeder ENABLED with its held set empty: the hold of each slot of
the set is judged again, in the order in which they joined (the model's choice, log 58), by which an order held for
the feeder alone is moved on (R180, R184); and, in NORMAL, each FREE section of the feeder with waiters is owed a
hand-over check (R182), in the table's order (log 26). RESET_FEEDER also clears the trip history, and is refused
BAD_STATE unless the feeder is in LOCKOUT with its input deasserted. -/
def Obligations.FeedersAreRestored : Prop :=
  let owing : FeederId → P60 → P60 := fun f p => { p with
    tasks := p.tasks ++ if p.estop then [] else (p.sections.filter (fun x =>
      x.occ == .free && !x.waiters.isEmpty && ((p.planSection? x.num).map (·.feeder) == some f))).map (·.num) }
  (∀ (f : FeederId) (n : Nat) (s : State),
    (s.p60.feeder f).state = .restoring n ∨ (s.p60.feeder f).state = .starting n →
    ∃ e, s.takesAndSettles (.restoreTimerExpiry f) e ∧
      e = owing f ((s.p60.feeder f).held.foldl P60.rejudgeHold
        ((s.p60.advance n).begun.withFeeder f (fun x => { x with state := .enabled, held := [] }))) ∧
      e.feeder f = { s.p60.feeder f with state := .enabled, held := [] }) ∧
  (∀ (tag b : Byte) (f : FeederId) (s : State), tag ≠ 0 → feederOf b = some f →
    s.p60.turnOf ⟨tag, 0x49, [b]⟩ →
    ((s.p60.feeder f).state ≠ .lockout ∨ (s.p60.feeder f).input = true →
      s.refuses (.resetFeeder tag b) ⟨tag, 0x49, [b]⟩ .badState []) ∧
    ((s.p60.feeder f).state = .lockout → (s.p60.feeder f).input = false →
      ∃ e, s.servesAndSettles (.resetFeeder tag b) ⟨tag, 0x49, [b]⟩ e [] ∧
        e = owing f ((s.p60.feeder f).held.foldl P60.rejudgeHold
          ((s.p60.withHead ⟨tag, 0x49, [b]⟩).withFeeder f (fun _ => ⟨.enabled, false, 0, 0, []⟩))) ∧
        e.feeder f = ⟨.enabled, false, 0, 0, []⟩)) ∧
  (∀ (tag b : Byte) (s : State), tag ≠ 0 → b = 0 ∨ 4 < b.toNat → s.p60.turnOf ⟨tag, 0x49, [b]⟩ →
    s.refuses (.resetFeeder tag b) ⟨tag, 0x49, [b]⟩ .outOfRange [])

/-- A hold's beginning and end. A slot's hold is judged by the input, the policy for its load and the held sets
(R178). Where it begins, an order in SETTING or WAITING, or in RUNNING and standing, is HELD at once, any other left
(R126; a LOST slot's is left: the model's reading, log 21); where it ends, a HELD order is moved on (R180). At the
beginning of a wind hold, STOP_NOW asks for BRAKE outside docking and AT_BOUNDARY cuts a moving RUNNING order's
authority back, which brings STOPPING (R179); a wind hold that becomes STOP_NOW asks for BRAKE, and any other change
of policy does nothing more (R181; from PROCEED: log 31). The passage timer is judged again each time (R130). -/
def Obligations.HoldsBeginAndEnd : Prop :=
  (∀ (k : SlotId) (s : P60),
    let x := s.slot k
    let policy := if s.laden k then s.ladenPolicy else s.unladenPolicy
    let wind := if s.windInput = true ∧ x.ident.isSome ∧ policy ≠ .proceed then some policy else none
    let held : Prop := wind.isSome ∨ ∃ f, k ∈ (s.feeder f).held
    let judged : Bool → P60 := fun b => s.withSlot k (fun x => { x with windHold := wind, held := b })
    let follows : P60 → P60 := fun p => (p.judgeTimer k).windChange k x.windHold wind
    (held → x.held = false → s.rejudgeHold k = follows ((judged true).holdBegins k)) ∧
    (held → x.held = true → s.rejudgeHold k = follows (judged true)) ∧
    (¬ held → x.held = false → s.rejudgeHold k = follows (judged false)) ∧
    (¬ held → x.held = true → s.rejudgeHold k = (follows (judged false)).holdEnds k)) ∧
  (∀ (k : SlotId) (s : P60),
    (s.activeOrder? k = none ∨ (s.slot k).status = .lost → s.holdBegins k = s ∧ s.holdEnds k = s) ∧
    (∀ o g c, s.activeOrder? k = some (o, g, c) → (s.slot k).status ≠ .lost →
      let stops : Prop := g = .setting ∨ g = .waiting ∨ (g = .running ∧ (s.slot k).motion.standing = true)
      (stops → s.holdBegins k = s.setStage k .held none) ∧
      (¬ stops → s.holdBegins k = s) ∧
      (g = .held → s.holdEnds k = s.moveOn k) ∧
      (g ≠ .held → s.holdEnds k = s))) ∧
  (∀ (k : SlotId) (was now : Option HoldPolicy) (s : P60),
    let asks : Prop := ∃ o g c, s.activeOrder? k = some (o, g, c) ∧ g.isDocking = false
    let cuts : Prop := (∃ o c, s.activeOrder? k = some (o, .running, c)) ∧ (s.slot k).motion.standing = false
    (now = some .stopNow → was = none ∨ was = some .atBoundary →
      (asks → s.windChange k was now = s.brakeRequest k) ∧ (¬ asks → s.windChange k was now = s)) ∧
    (now = some .atBoundary → was = none →
      (cuts → s.windChange k was now = (s.cutBack k).setStage k .stopping none) ∧
      (¬ cuts → s.windChange k was now = s)) ∧
    (was.isSome → ¬ (was = some .atBoundary ∧ now = some .stopNow) → s.windChange k was now = s) ∧
    (now = none ∨ now = some .proceed → s.windChange k was now = s))

/-- The wind-hold input: asserted, each bound slot whose policy is not PROCEED is under a wind hold with its policy;
deasserted, none is, the docking commands withheld meanwhile are sent (R144) after the holds have ended (the model's
choice, log 7), and a scan is triggered; an edge to the level that the line has already changes nothing (the model's
choice, log 3). SET_HOLD_POLICY puts both policies in force, judges every slot's hold by them and begins their
write, during which they act already (the model's reading, log 6); a policy code that is none of the three is
OUT_OF_RANGE. The slots' holds are judged by slot number (the model's choice, log 26). -/
def Obligations.WindHoldsFollowTheInputAndThePolicies : Prop :=
  let judged : P60 → P60 := fun p => ([0, 1, 2, 3, 4, 5] : List SlotId).foldl P60.rejudgeHold p
  (∀ s : State, s.p60.windInput = true →
    exec .windHoldAsserted s = .next { s with p60 := { s.p60 with out := [] } }) ∧
  (∀ s : State, s.p60.windInput = false →
    exec .windHoldDeasserted s = .next { s with p60 := { s.p60 with out := [] } }) ∧
  (∀ s : State, s.p60.windInput = false →
    ∃ e, s.takesAndSettles .windHoldAsserted e ∧ e = judged { s.p60.begun with windInput := true } ∧
      e.windInput = true ∧
      ∀ k, (e.slot k).windHold =
        if (s.p60.slot k).ident.isSome ∧ s.p60.policyFor k ≠ .proceed then some (s.p60.policyFor k)
        else none) ∧
  (∀ s : State, s.p60.windInput = true →
    ∃ e, s.takesAndSettles .windHoldDeasserted e ∧
      e = P60.trigger (judged { s.p60.begun with windInput := false }).sendAllDue ∧
      e.windInput = false ∧ e.scanDue = true ∧
      ∀ k, (e.slot k).windHold = none) ∧
  (∀ (tag x y : Byte) (a b : HoldPolicy) (s : State), tag ≠ 0 → policyOf x = some a → policyOf y = some b →
    s.p60.turnOf ⟨tag, 0x48, [x, y]⟩ →
    let u := judged { s.p60.withHead ⟨tag, 0x48, [x, y]⟩ with ladenPolicy := a, unladenPolicy := b }
    ∃ e, s.takesAndSettles (.setHoldPolicy tag x y) e ∧ e = { u with writes := u.writes ++ [.policies a b] } ∧
      e.ladenPolicy = a ∧ e.unladenPolicy = b ∧
      e.writes = s.p60.writes ++ [.policies a b] ∧
      ∀ k, (e.slot k).windHold =
        let p := if s.p60.laden k then a else b
        if s.p60.windInput = true ∧ (s.p60.slot k).ident.isSome ∧ p ≠ .proceed then some p else none) ∧
  (∀ (tag x y : Byte) (s : State), tag ≠ 0 → policyOf x = none ∨ policyOf y = none →
    s.p60.turnOf ⟨tag, 0x48, [x, y]⟩ →
    s.refuses (.setHoldPolicy tag x y) ⟨tag, 0x48, [x, y]⟩ .outOfRange [])

/-! ## Transporters -/

/-- ANNOUNCE: maker code 0 is discarded; a bound identity rebinds its slot, and an admitted one of class
TRANSPORTER is bound to the lowest EMPTY slot, which takes what was announced, each figure kept within its range
and marked where it was not; a listed stranger is sent STAND_DOWN again, its entry left as it is (the model's
reading, log 39); and any other becomes a stranger, UNACCEPTED or SURPLUS, recorded while the list holds fewer
than 8, and sent STAND_DOWN once with tag 1 where it is full (the tag is the model's choice, log 22). -/
def Obligations.AnnouncementsAreJudged : Prop :=
  (∀ (a : Announcement) (s : State), a.ident.maker = 0 →
    exec (.announce a) s = .next { s with p60 := { s.p60 with out := [] } }) ∧
  (∀ (a : Announcement) (k : SlotId) (s : State), a.ident.maker ≠ 0 →
    s.p60.slotOf? a.ident = some k ∨
      (s.p60.slotOf? a.ident = none ∧ s.p60.stranger? a.ident = none ∧ a.cls = 0x21 ∧
        s.p60.admits a = true ∧ s.p60.emptySlot? = some k) →
    ∃ e, s.takesAndSettles (.announce a) e ∧ (e.slot k).ident = some a.ident ∧ (e.slot k).model = a.model ∧
      (e.slot k).revision = a.revision ∧ (e.slot k).announcedFront = a.front ∧
      (e.slot k).announcedRear = a.rear ∧ (e.slot k).reportedLoad = a.loadPresent ∧
      (e.slot k).front = a.front ∧ (e.slot k).rear = a.rear ∧
      (let length := max 8000 (min 30000 a.length.toNat)
       let speed : Half → Nat := fun v => max 100 (min 1500 v.toNat)
       let decel : Half → Nat := fun v => max 20 (min 500 v.toNat)
       (e.slot k).figures =
        { length
          ladenSpeed := speed a.ladenSpeed, ladenDecel := decel a.ladenDecel
          unladenSpeed := speed a.unladenSpeed, unladenDecel := decel a.unladenDecel
          clamped := [length != a.length.toNat, speed a.ladenSpeed != a.ladenSpeed.toNat,
            decel a.ladenDecel != a.ladenDecel.toNat, speed a.unladenSpeed != a.unladenSpeed.toNat,
            decel a.unladenDecel != a.unladenDecel.toNat] })) ∧
  (∀ (a : Announcement) (s : P60), s.admits a = true ↔ s.nvm.acceptance = [] ∨ ∃ e ∈ s.nvm.acceptance,
    (∀ m, e.maker = some m → m = a.ident.maker) ∧ (∀ m, e.model = some m → m = a.model) ∧
      (∀ r, e.revision = some r → r = a.revision)) ∧
  (∀ (a : Announcement) (s : State), a.ident.maker ≠ 0 → s.p60.slotOf? a.ident = none →
    (s.p60.stranger? a.ident).isSome → s.p60.strangersDistinct →
    s.makes (.announce a) { s.p60.begun with
      strangers := s.p60.strangers.map (fun x =>
        if x.ident = a.ident then
          { x with
            peer := { x.peer with
              standDown := some ⟨.standDown, nextTag x.peer.lastTag, false, none⟩
              lastTag := nextTag x.peer.lastTag } }
        else x) }) ∧
  (∀ (a : Announcement) (why : StrangerReason) (s : State), a.ident.maker ≠ 0 →
    s.p60.slotOf? a.ident = none → s.p60.stranger? a.ident = none → s.p60.strangersDistinct →
    (why = .unaccepted ∧ (a.cls ≠ 0x21 ∨ s.p60.admits a = false)) ∨
      (why = .surplus ∧ a.cls = 0x21 ∧ s.p60.admits a = true ∧ s.p60.emptySlot? = none) →
    (s.p60.strangers.length < 8 →
      s.makes (.announce a) { s.p60.begun with
        strangers := s.p60.strangers ++ [⟨a.ident, a.model, a.revision, a.cls, why, s.p60.clock,
          { Peer.fresh with standDown := some ⟨.standDown, 1, false, none⟩, lastTag := 1 }⟩] }) ∧
    (8 ≤ s.p60.strangers.length →
      s.makes (.announce a) { s.p60.begun with out := [peerFrame a.ident 1 .standDown] }))

/-- Binding and rebinding. A bound identity that announces is bound again to its slot (R170): what it announces is
in force, its rear noted (log 19), its peer begun afresh with its tags counting on (log 22), its standing flags
cleared and its stage timer running on, its ACTIVE order SUSPENDED by LINK_LOST (R72), BIND in its place, the
announced sections adopted or the slot in CONFLICT with its overlap as announced (R168; log 40), its load reconciled
(R169), the change set joined (R173) and its hold judged; an EMPTY slot is bound alike (R167). An adopted slot takes
the state its order gives, IDLE without one, with a scan where it leaves CONFLICT or becomes IDLE, and joins held
sets by what it newly overlaps (R184). A standing report of a slot in CONFLICT, or of one that does not own its
overlap, tries again. -/
def Obligations.BindingAdoptsAndReconciles : Prop :=
  let told : Announcement → Slot → Slot := fun a x =>
    { x with
      model := a.model, revision := a.revision, figures := figuresOf a, reportedLoad := a.loadPresent
      announcedFront := a.front, announcedRear := a.rear, front := a.front, rear := a.rear, speed := 0 }
  let reconciled : SlotId → P60 → P60 := fun k p => p.withSlot k (fun x =>
    if x.reportedLoad = p.laden k then x else { x with fault := some (x.fault.getD .loadMismatch) })
  let named : SlotId → P60 → List Nat := fun k p => match (p.slot k).overlap with
    | none => []
    | some (a, b) => [a, b]
  (∀ (a : Announcement) (k : SlotId) (s : State), a.ident.maker ≠ 0 → s.p60.slotOf? a.ident = some k →
    s.takesAndSettles (.announce a) (s.p60.begun.rebindSlot k a)) ∧
  (∀ (a : Announcement) (k : SlotId) (s : State), a.ident.maker ≠ 0 → s.p60.slotOf? a.ident = none →
    s.p60.stranger? a.ident = none → a.cls = 0x21 → s.p60.admits a = true → s.p60.emptySlot? = some k →
    s.takesAndSettles (.announce a) (s.p60.begun.bindSlot k a)) ∧
  (∀ (a : Announcement) (k : SlotId) (s : P60),
    let noted := (s.withSlot k (fun x => { told a x with
      peer := x.peer.map (fun p =>
        { Peer.fresh with lastTag := p.lastTag, lastReply := p.lastReply }) })).noteRear k
    let up := noted.withSlot k (fun x =>
      { x with
        motion := { x.motion with standing := false, resent := false }
        docking := { x.docking with timer := match x.docking.timer with
          | .paused n => .running n
          | t => t } })
    let placed := (up.linkLost k).withSlot k (fun x => { x with peer := x.peer.map (fun p =>
      { p with bind := some ⟨.bind k, nextTag p.lastTag, false, none⟩, lastTag := nextTag p.lastTag }) })
    s.rebindSlot k a = ((((reconciled k (placed.adoptAnnounced k)).joinChangeSet k).judgeTimer k).rejudgeHold k)) ∧
  (∀ (a : Announcement) (k : SlotId) (s : P60),
    let placed := s.withSlot k (fun _ => { told a Slot.initial with
      ident := some a.ident, status := .conflict
      peer := some { Peer.fresh with bind := some ⟨.bind k, 1, false, none⟩, lastTag := 1 } })
    s.bindSlot k a = ((reconciled k
      ((placed.adoption k a.front.sec.toNat a.rear.sec.toNat).getD placed)).joinChangeSet k).rejudgeHold k) ∧
  (∀ (k : SlotId) (s : P60),
    let front := (s.slot k).front.sec.toNat
    let rear := (s.slot k).rear.sec.toNat
    (∀ t, s.adoption k front rear = some t → s.adoptAnnounced k = t) ∧
    (s.adoption k front rear = none → s.adoptAnnounced k = P60.joinByOverlap (s.withSlot k (fun x =>
      { x with status := .conflict, overlap := some (front, rear) })) k (named k s))) ∧
  (∀ (k : SlotId) (a b : Nat) (s : P60),
    (s.adopt? k a b = none → s.adoption k a b = none) ∧
    (∀ t, s.adopt? k a b = some t →
      let now : SlotState := match t.activeOrder? k with
        | none => .idle
        | some (_, .setting, _) => .idle
        | some (_, .running, _) => .moving
        | some (_, .waiting, _) => .waiting
        | some (_, .stopping, _) => .stopping
        | some (_, .held, _) => .held
        | some _ => .docking
      let was := (s.slot k).status
      let u := t.withSlot k (fun x => { x with status := now })
      s.adoption k a b = some (P60.joinByOverlap
        (if was ≠ now ∧ (now = .idle ∨ was = .conflict) then u.trigger else u) k (named k s)))) ∧
  (∀ (k : SlotId) (s : P60),
    let st := (s.slot k).status
    let tries : Prop := st = .conflict ∨ (st ≠ .lost ∧ ∃ n ∈ named k s, s.owner? n ≠ some (.slot k))
    let tried := s.adoption k (s.slot k).front.sec.toNat (s.slot k).rear.sec.toNat
    (¬ tries ∨ tried = none → s.retryAdoption k = s) ∧
    (∀ t, tries → tried = some t →
      s.retryAdoption k = if st = .conflict then t.joinChangeSet k else t)) ∧
  (∀ (k : SlotId) (s : P60), s.joinChangeSet k = { s with
    changeSet := s.changeSet.map (fun l => if k ∈ l then l else l ++ [k]) })

/-- A POSITION report that answers a bound slot's poll puts its front, rear and speed in force, and the slot is
standing exactly by a report at standstill with speed 0; no other slot's position changes. The report goes to the
blocks in one order (log 7): the table takes the overlap, the start of an entry confirmation of 3,000 ms (R32), the
rear (R28; off the route: log 19) and the release evaluation of each owned section, in its own order (log 26); the
slot joins held sets by its new overlap (R184; log 51); the braking supervisor evaluates the report, and a docking
transporter that it shows outside its window is displaced (R150; judged by the evaluation: log 29); the standstill
is judged; and what a standing report owes is paid. Where the pass of an order in RUNNING falls is free (log 7). -/
def Obligations.PositionReportsAreTakenIn : Prop :=
  (∀ (i : Identity) (tag : Byte) (rep : PositionReport) (k : SlotId) (p : Peer) (a : Attempt) (s : State),
    s.p60.attemptOf i tag k p a →
    ∃ e, s.takesAndSettles (.position i tag rep) e ∧ (e.slot k).front = rep.front ∧
      (e.slot k).rear = rep.rear ∧ (e.slot k).speed = rep.speed.toNat ∧
      (e.slot k).motion.standing = (rep.standstill && rep.speed == 0) ∧
      (e.slot k).motion.lastReport = some s.p60.clock ∧
      ∀ j, j ≠ k → (e.slot j).front = (s.p60.slot j).front ∧ (e.slot j).rear = (s.p60.slot j).rear ∧
        (e.slot j).speed = (s.p60.slot j).speed) ∧
  (∀ (k : SlotId) (rep : PositionReport) (s : P60),
    let still := rep.standstill && rep.speed == 0
    let noted := s.withSlot k (fun x =>
      { x with
        front := rep.front
        rear := rep.rear
        speed := rep.speed.toNat
        motion := { x.motion with
          standing := still
          resent := x.motion.resent && still
          lastReport := some s.clock } })
    let before := match (s.slot k).overlap with
      | none => []
      | some (a, b) => [a, b]
    let judged := ((noted.tablePosition k).joinByOverlap k before).superviseAndPass k rep still
    (still = true → s.positionReport k rep = judged.payStandstill k) ∧
    (still = false → s.positionReport k rep = judged)) ∧
  (∀ (k : SlotId) (s : P60),
    let front := (s.slot k).front.sec.toNat
    let rear := (s.slot k).rear.sec.toNat
    let lapped := s.withSlot k (fun x => { x with overlap := some (front, rear) })
    let confirmed : P60 := { lapped with sections := lapped.sections.map (fun r =>
      match r.occ with
      | .reserved h none =>
        if r.num = front ∧ h.owner = .slot k then { r with occ := .reserved h (some 3000) } else r
      | _ => r) }
    let taken := confirmed.noteRear k
    s.tablePosition k = ((taken.sections.filter (fun r => r.occ.owner? == some (.slot k))).map (·.num)).foldl
      (fun p n => p.evaluateRelease k n) taken) ∧
  (∀ (k : SlotId) (s : P60),
    (s.liveOrder? k = none → s.noteRear k = s) ∧
    (∀ o, s.liveOrder? k = some o →
      let i := indexIn (s.slot k).rear.sec.toNat o.route
      let onRoute : Prop := i ≠ 0 ∧ indexIn (s.slot k).front.sec.toNat o.route ≠ 0
      (¬ onRoute → s.noteRear k = s) ∧
      (onRoute → s.noteRear k = s.withSlot k (fun x => { x with progress := { x.progress with rearIndex := i } })))) ∧
  (∀ (k : SlotId) (before : List Nat) (s : P60),
    let laps : P60 → Nat → Prop := fun p n => ∃ a b, (p.slot k).overlap = some (a, b) ∧ (n = a ∨ n = b)
    let due : P60 → FeederId → Prop := fun p f =>
      ((p.feeder f).state = .tripped ∨ (∃ t, (p.feeder f).state = .restoring t) ∨ (p.feeder f).state = .lockout) ∧
        ∃ n x, laps p n ∧ n ∉ before ∧ p.planSection? n = some x ∧ x.feeder = f
    ∃ joins : P60 → FeederId → P60,
      (∀ p f, (due p f → joins p f = p.joinHeld k f) ∧ (¬ due p f → joins p f = p)) ∧
      s.joinByOverlap k before = ([0, 1, 2, 3] : List FeederId).foldl joins s) ∧
  (∀ (k : SlotId) (rep : PositionReport) (still : Bool) (s : P60),
    let judge : P60 → P60 := fun p => if still then p.judgeStandstill k rep else p
    let passes : Prop := (s.slot k).progress.order ≠ 0 ∧ (s.slot k).status ≠ .lost ∧ (s.slot k).held = false ∧
      ∃ o c, s.activeOrder? k = some (o, .running, c)
    let drawn : P60 := { s with draws := s.draws + 1 }
    (passes →
      s.superviseAndPass k rep still = judge ((drawn.passEvent k).supervise k rep) ∨
      s.superviseAndPass k rep still = judge ((drawn.supervise k rep).passEvent k) ∨
      s.superviseAndPass k rep still = (judge (drawn.supervise k rep)).passEvent k) ∧
    (¬ passes → s.superviseAndPass k rep still = judge (s.supervise k rep))) ∧
  (∀ (k : SlotId) (rep : PositionReport) (s : P60),
    let d : Order → Eoa → Int := fun o e => min (distance (s.stepsOf o) (indexIn rep.front.sec.toNat o.route)
      rep.front.off.toNat (indexIn e.sec o.route) e.off) 2000000
    let left : Prop := ∃ o g c e, s.activeOrder? k = some (o, g, c) ∧ g.isDocking = true ∧
      ((s.slot k).authority.state = .given e ∨ (s.slot k).authority.state = .braked e) ∧
      (s.basis k rep ≠ .curve ∨ d o e < -50 ∨ 50 < d o e)
    (left → s.supervise k rep = (s.evaluate k rep).displaced k) ∧
    (¬ left → s.supervise k rep = s.evaluate k rep)) ∧
  (∀ (k : SlotId) (s : P60),
    let faulty := (s.brakeRequest k).withSlot k (fun x =>
      { x with fault := some (x.fault.getD .transporterFault) })
    (∀ o, s.liveOrder? k = some o → ∃ o', faulty.liveOrder? k = some o' ∧ o'.id = o.id ∧
      s.displaced k = faulty.finishOrder o' (.failed .transporterFault)) ∧
    (s.liveOrder? k = none → s.displaced k = faulty))

/-- LIFTED and LOWERED: awaited by the docking stage, its command transmitted, each ends the stage and begins the
transfer's write; unawaited, or before its command's first transmission (the model's reading, log 55), each sets the
reported load, and the fault flag with LOAD_MISMATCH where that disagrees with the table. DEPART frees an idle unladen
slot without an order (R174: spelled by ReleaseSlotAndClearSlotFault); FAULT notes its code, sets the fault flag and
fails an ACTIVE order. -/
def Obligations.CustodyDepartureAndFaultReports : Prop :=
  ∀ (i : Identity) (tag code : Byte) (k : SlotId) (p : Peer) (a : Attempt) (s : State),
    s.p60.attemptOf i tag k p a →
    let after := s.p60.afterReply k p
    let unawaited : Bool → P60 := fun present => after.withSlot k (fun x =>
      { x with
        reportedLoad := present
        fault := if present = s.p60.laden k then x.fault else some (x.fault.getD .loadMismatch) })
    let halted := after.withSlot k (fun x => { x with docking := x.docking.halt })
    (∀ o c, s.p60.activeOrder? k = some (o, .dockLift, c) → (s.p60.slot k).docking.expects .lifted = true →
      s.takes (.lifted i tag) { halted with writes := s.p60.writes ++ [.lifted k i o.id o.telescope] }) ∧
    ((s.p60.slot k).docking.expects .lifted = false → s.takes (.lifted i tag) (unawaited true)) ∧
    (∀ o c, s.p60.activeOrder? k = some (o, .dockLower, c) → (s.p60.slot k).docking.expects .lowered = true →
      s.takes (.lowered i tag) { halted with
        writes := s.p60.writes ++ [.lowered k i o.id o.telescope o.pad] }) ∧
    ((s.p60.slot k).docking.expects .lowered = false → s.takes (.lowered i tag) (unawaited false)) ∧
    ((s.p60.slot k).status = .idle → s.p60.laden k = false → s.p60.liveOrder? k = none →
      ∃ e, s.takesAndSettles (.depart i tag) e ∧ e.slot k = Slot.initial ∧ e = after.freeSlot k) ∧
    ((s.p60.slot k).status ≠ .idle ∨ s.p60.laden k = true ∨ (s.p60.liveOrder? k).isSome →
      s.takes (.depart i tag) after) ∧
    (∃ e, s.takesAndSettles (.fault i tag code) e ∧ (e.slot k).lastFault = code ∧
      (e.slot k).fault = some ((s.p60.slot k).fault.getD .transporterFault) ∧
      e.orders = match s.p60.activeOrder? k with
        | none => s.p60.orders
        | some (o, _, _) => s.p60.orders.map (fun x =>
          if x.id = o.id then { x with state := .failed .transporterFault, promise := false } else x))

/-- The exchanges of the transporter link, the model's order of turns at a command's end and its advance of time
(log 10, log 2) apart. ACK, POSITION, LIFTED, LOWERED, DEPART or FAULT, any reply but BUSY, ends the attempt it
answers, empties the place its message stood in and has the first POLL follow BIND or STAND_DOWN (any of them
acknowledging these: the model's choice, log 59), before what the report says is taken in; BUSY defers the message
200 ms. A missing reply counts a failure and has the place's message sent again, an emptied place leaving nothing to
send, until the third makes the slot LOST: its places are emptied, its wait withdrawn (R95), its timers paused (R127,
R143), and it joins the change set (R173). The same holds of a listed stranger, whose reports are acknowledgements
alone, whose DEPART and third failure take its entry from the list, and whose poll interval is 5,000 ms (R163, R171).
A deferral ends, a poll falls due, and ALL_STOP is repeated until its three sendings are made. Messages and field
frames that answer nothing are discarded. Frames and peers are those of the links' turn; that no stranger is
listed twice is kept by every step. -/
def Obligations.ExchangesOfTheTransporterLink : Prop :=
  (∀ s t : State, s.p60.strangersDistinct → step s = .next t → t.p60.strangersDistinct) ∧
  (∀ (i : Identity) (tag : Byte) (k : SlotId) (p : Peer) (a : Attempt) (s : State),
    s.p60.attemptOf i tag k p a → s.p60.strangersDistinct →
    let after : Peer → P60 := fun q => s.p60.begun.withSlot k (fun x => { x with peer := some q })
    let ended : Peer → Peer := fun q =>
      { q with failures := 0, attempt := none, lastReply := some s.p60.clock }
    let polled : Peer → Peer := fun q =>
      if (a.place = .bind ∨ a.place = .standDown) ∧ q.lastPoll = none ∧ q.poll = none then
        { q with poll := some ⟨.poll, nextTag q.lastTag, false, none⟩, lastTag := nextTag q.lastTag }
      else q
    let placed : Prop := (p.get a.place).map (·.tag) = some tag
    let answered := s.p60.afterReply k p
    (placed → answered = after (polled (ended (p.set none a.place)))) ∧
    (¬ placed → answered = after (polled (ended p))) ∧
    (∀ (rep : PositionReport) (code : Byte),
      s.takesAndSettles (.position i tag rep) (answered.positionReport k rep) ∧
      s.takesAndSettles (.lifted i tag) (answered.liftedReport k) ∧
      s.takesAndSettles (.lowered i tag) (answered.loweredReport k) ∧
      s.takesAndSettles (.depart i tag) (answered.departs k) ∧
      s.takesAndSettles (.fault i tag code) (answered.faultReport k code)) ∧
    (placed → s.makes (.ack i tag) (after (polled (ended (p.set none a.place))))) ∧
    (¬ placed → s.makes (.ack i tag) (after (polled (ended p)))) ∧
    (placed → s.makes (.busy i tag) (after (ended
      (p.set ((p.get a.place).map (fun m => { m with deferred := some 200 })) a.place)))) ∧
    (¬ placed → s.makes (.busy i tag) (after (ended p)))) ∧
  (∀ (i : Identity) (tag : Byte) (x : Stranger) (a : Attempt) (s : State), s.p60.slotOf? i = none →
    s.p60.stranger? i = some x → x.peer.attempt = some a → a.tag = tag → s.p60.strangersDistinct →
    let after : Peer → P60 := fun q => { s.p60.begun with
      strangers := s.p60.strangers.map (fun y => if y.ident = i then { y with peer := q } else y) }
    let ended : Peer → Peer := fun q =>
      { q with failures := 0, attempt := none, lastReply := some s.p60.clock }
    let polled : Peer → Peer := fun q =>
      if (a.place = .bind ∨ a.place = .standDown) ∧ q.lastPoll = none ∧ q.poll = none then
        { q with poll := some ⟨.poll, nextTag q.lastTag, false, none⟩, lastTag := nextTag q.lastTag }
      else q
    let placed : Prop := (x.peer.get a.place).map (·.tag) = some tag
    (∀ (code : Byte) (rep : PositionReport), ∀ c ∈ [Instr.ack i tag, .position i tag rep, .lifted i tag,
        .lowered i tag, .fault i tag code],
      (placed → s.makes c (after (polled (ended (x.peer.set none a.place))))) ∧
      (¬ placed → s.makes c (after (polled (ended x.peer))))) ∧
    (placed → s.makes (.busy i tag) (after (ended
      (x.peer.set ((x.peer.get a.place).map (fun m => { m with deferred := some 200 })) a.place)))) ∧
    (¬ placed → s.makes (.busy i tag) (after (ended x.peer))) ∧
    s.makes (.depart i tag) { s.p60.begun with strangers := s.p60.strangers.filter (fun y => y.ident != i) }) ∧
  (∀ (i : Identity) (tag code : Byte) (rep : PositionReport) (s : State),
    (∀ k p a, ¬ s.p60.attemptOf i tag k p a) →
    (∀ x, s.p60.stranger? i = some x → ∀ a, x.peer.attempt = some a → a.tag ≠ tag) →
    ∀ c ∈ [Instr.ack i tag, .busy i tag, .position i tag rep, .lifted i tag, .lowered i tag, .depart i tag,
      .fault i tag code], exec c s = .next { s with p60 := { s.p60 with out := [] } }) ∧
  (∀ (i : Identity) (address tag kind : Byte) (body : List Byte) (s : State),
    exec (.strayTransporterMessage i tag kind body) s = .next { s with p60 := { s.p60 with out := [] } } ∧
    exec (.fieldFrameNotAReply address tag kind body) s = .next { s with p60 := { s.p60 with out := [] } }) ∧
  (∀ (i : Identity) (k : SlotId) (p : Peer) (a : Attempt) (s : State), s.p60.slotOf? i = some k →
    (s.p60.slot k).peer = some p → p.attempt = some a → s.p60.strangersDistinct →
    (∀ x, p.failures < 2 → p.get a.place = some x →
      let t := (s.p60.advance a.wait).begun
      s.makes (.transporterReplyTimeout i) (P60.withSlot { t with out := [peerFrame i x.tag x.msg] } k (fun y =>
        { y with
          peer := y.peer.map (fun (q : Peer) =>
            { q.set (some ⟨x.msg, x.tag, true, none⟩) a.place with
              failures := p.failures + 1
              attempt := some ⟨x.msg, a.place, x.tag, 200⟩
              lastPoll := if a.place = .poll ∧ x.sent = false then some t.clock else p.lastPoll })
          docking := { y.docking with
            transmitted := y.docking.transmitted || (x.msg == .lift && y.docking.awaiting == .lifted) ||
              (x.msg == .lower && y.docking.awaiting == .lowered) } }))) ∧
    (p.failures < 2 → p.get a.place = none →
      s.makes (.transporterReplyTimeout i) ((s.p60.advance a.wait).begun.withSlot k (fun y =>
        { y with peer := y.peer.map (fun q => { q with attempt := none, failures := p.failures + 1 }) }))) ∧
    (2 ≤ p.failures →
      ∃ e, s.takesAndSettles (.transporterReplyTimeout i) e ∧ (e.slot k).status = .lost ∧
        (e.slot k).motion.standing = false ∧ (∃ q, (e.slot k).peer = some q ∧ q.failures = 3 ∧
        q.attempt = none ∧ q.bind = none ∧ q.motion = none ∧ q.docking = none ∧ q.poll = none) ∧
        (let lost := (s.p60.advance a.wait).begun.withSlot k (fun y =>
          { y with
            status := .lost
            peer := some { Peer.fresh with failures := 3, lastTag := p.lastTag, lastReply := p.lastReply } })
         let paused := (lost.withdrawWait k).withSlot k (fun y =>
          { y with
            motion := { y.motion with standing := false, resent := false }
            docking := { y.docking with
              timer := match y.docking.timer with
                | .running n => .paused n
                | m => m } })
         e = (paused.judgeTimer k).joinChangeSet k))) ∧
  (∀ (i : Identity) (x : Stranger) (a : Attempt) (s : State), s.p60.slotOf? i = none →
    s.p60.stranger? i = some x → x.peer.attempt = some a → s.p60.strangersDistinct →
    let t := (s.p60.advance a.wait).begun
    let after : (Peer → Peer) → P60 := fun f => { t with
      strangers := t.strangers.map (fun y => if y.ident = i then { y with peer := f y.peer } else y) }
    (∀ m, x.peer.failures < 2 → x.peer.get a.place = some m →
      s.makes (.transporterReplyTimeout i) { after (fun q =>
        { q.set (some ⟨m.msg, m.tag, true, none⟩) a.place with
          failures := x.peer.failures + 1
          attempt := some ⟨m.msg, a.place, m.tag, 200⟩
          lastPoll := if a.place = .poll ∧ m.sent = false then some t.clock else x.peer.lastPoll }) with
        out := [peerFrame i m.tag m.msg] }) ∧
    (x.peer.failures < 2 → x.peer.get a.place = none →
      s.makes (.transporterReplyTimeout i)
        (after (fun q => { q with attempt := none, failures := x.peer.failures + 1 }))) ∧
    (2 ≤ x.peer.failures →
      s.makes (.transporterReplyTimeout i) { t with strangers := t.strangers.filter (fun y => y.ident != i) })) ∧
  (∀ (i : Identity) (k : SlotId) (p : Peer) (place : PlaceName) (x : Placed) (n : Nat) (s : State),
    s.p60.slotOf? i = some k → (s.p60.slot k).peer = some p → p.get place = some x → x.deferred = some n →
    s.p60.strangersDistinct →
    s.makes (.busyDeferralEnd i place) ((s.p60.advance n).begun.withSlot k (fun y =>
      { y with peer := y.peer.map (fun p =>
        p.set ((p.get place).map (fun m => { m with deferred := none })) place) }))) ∧
  (∀ (i : Identity) (k : SlotId) (p : Peer) (t : Word) (s : State), s.p60.slotOf? i = some k →
    (s.p60.slot k).peer = some p → p.lastPoll = some t → p.poll = none → (s.p60.slot k).status ≠ .lost →
    s.p60.strangersDistinct →
    let n := (match (s.p60.slot k).status with
      | .empty => 0
      | .stopping => 500
      | _ => if (s.p60.slot k).authority.state = .none then 5000 else 500) - s.p60.elapsed t
    s.makes (.transporterPollDue i) ((s.p60.advance n).begun.withSlot k (fun y =>
      { y with peer := y.peer.map (fun p => { p with
        poll := some ⟨.poll, nextTag p.lastTag, false, none⟩
        lastTag := nextTag p.lastTag }) }))) ∧
  (∀ (i : Identity) (x : Stranger) (s : State), s.p60.slotOf? i = none → s.p60.stranger? i = some x →
    s.p60.strangersDistinct →
    let after : Nat → (Peer → Peer) → P60 := fun n f => { (s.p60.advance n).begun with
      strangers := (s.p60.advance n).strangers.map (fun y =>
        if y.ident = i then { y with peer := f y.peer } else y) }
    (∀ place m n, x.peer.get place = some m → m.deferred = some n →
      s.makes (.busyDeferralEnd i place) (after n (fun q =>
        q.set ((q.get place).map (fun m => { m with deferred := none })) place))) ∧
    (∀ t, x.peer.lastPoll = some t → x.peer.poll = none →
      s.makes (.transporterPollDue i) (after (5000 - s.p60.elapsed t) (fun q =>
        { q with poll := some ⟨.poll, nextTag q.lastTag, false, none⟩, lastTag := nextTag q.lastTag })))) ∧
  (∀ (a : AllStop) (s : State), s.p60.allStop = some a → s.p60.strangersDistinct →
    s.makes .allStopRepeat { (s.p60.advance a.timer).begun with
      out := [allStopFrame]
      allStop := if a.left ≤ 1 then none else some ⟨a.left - 1, 100⟩ })

/-! ## The scan -/

/-- A scan trigger begins a scan, which judges the orders from head to tail, or is kept pending during one, as the
second trigger of one command is by the scan of the first; the scan's end clears the hold of the list, and a pending
trigger then begins another at once. That the walk is whole within one command, the hold lasting to its end, is the
model's reading (log 8). An order is dispatched where it is eligible and its start check passes, FAILED(ROUTE_START)
where it is eligible and the check fails, and left as it is otherwise; dispatch opens its route progress, notes
the rear in force on the new route (R28, log 19), and takes the standing sections in, in table order (the model's
choice, log 26), those off the route left without entry end and leg even where a release is pending (the model's
choice, log 62). -/
def Obligations.ScansJudgeAndDispatchOrders : Prop :=
  (∀ s : P60, (s.scanDue = false → s.trigger = { s with scanDue := true }) ∧
    (s.scanDue = true → s.trigger = { s with scanPending := true })) ∧
  (∀ s : P60, s.scanDue = true → s.scanning = false →
    let t := (s.orders.map (·.id)).foldl P60.judgeOrder { s with scanning := true, scanDue := false }
    s.takeTrigger = { t with scanPending := t.scanPending || t.scanDue, scanDue := false }) ∧
  (∀ s : P60, s.scanDue = true → s.scanning = true →
    s.takeTrigger = { s with scanPending := true, scanDue := false }) ∧
  (∀ s : State, s.p60.scanning = true → s.p60.scanPending = false →
    s.takes .scanEnd { s.p60.begun with scanning := false }) ∧
  (∀ s : State, s.p60.scanning = true → s.p60.scanPending = true →
    s.takesAndSettles .scanEnd { s.p60.begun with
      scanning := false, scanPending := false, scanDue := true }) ∧
  (∀ (a b : List Order) (o : Order) (s : P60), s.orders = a ++ o :: b → (∀ x ∈ a, x.id ≠ o.id) →
    let loaded : Prop := match o.kind with
      | .fetch => s.laden o.slot = false ∧ s.location o.telescope = .pad o.pad
      | .deliver => ∃ i, (s.slot o.slot).ident = some i ∧ s.location o.telescope = .transporter i
      | .run => True
    let eligible : Prop := o.state = .queued ∧ s.plan?.isSome ∧ s.estop = false ∧ s.silence.state ≠ .expired ∧
      (s.slot o.slot).status = .idle ∧ (s.slot o.slot).fault = none ∧
      (∀ x ∈ a, x.slot = o.slot → x.state.finished = true) ∧ loaded ∧
      (s.windInput = false ∨ (if s.laden o.slot then s.ladenPolicy else s.unladenPolicy) = .proceed)
    let starts : Prop := ∃ st, (s.stepsOf o).head? = some st ∧ st.sec = (s.slot o.slot).front.sec.toNat ∧
      s.owner? st.sec = some (.slot o.slot) ∧ ∀ leg, st.leg = some leg → s.detectedIn st.sec leg = true
    (¬ eligible → s.judgeOrder o.id = s) ∧
    (eligible → starts → s.judgeOrder o.id = s.dispatch o) ∧
    (eligible → ¬ starts → s.judgeOrder o.id = P60.trigger (P60.raise { s with
      orders := s.orders.map (fun x =>
        if x.id = o.id then { x with state := .failed .routeStart, promise := false } else x) }
      .orderFinished))) ∧
  (∀ (o : Order) (s : P60), s.liveOrder? o.slot = none →
    let u := (P60.withSlot { s with
        orders := s.orders.map (fun x =>
          if x.id = o.id then { x with state := .active .setting none, routeIndex := 1 } else x) } o.slot
      (fun x => { x with progress := ⟨o.id, 0, none, none, 0⟩ })).noteRear o.slot
    let owned := (u.sections.filter (fun r => r.occ.owner? == some (.slot o.slot))).map (·.num)
    let taken := owned.foldl (fun p n =>
      match (p.stepsOf o).find? (fun t => t.sec == n) with
      | some t => (p.attempt o.slot t).1
      | none => { p with sections := p.sections.map (fun r =>
          if r.num = n then
            { r with occ := r.occ.mapHolding (fun h =>
              { h with entry := none, leg := none, autoRelease := true }) }
          else r) }) u
    let timed := taken.loadTimer o.slot o 1
    ((timed.slot o.slot).held = true → s.dispatch o = timed.setStage o.slot .held none) ∧
    ((timed.slot o.slot).held = false → s.dispatch o = timed.passEvent o.slot)) ∧
  (∀ (o : Order) (s : P60), (s.liveOrder? o.slot).isSome → s.dispatch o = s)

end
end

