-- ==== Sys2Proof/Laws/State.lean ====
section
/-! SUPPORT. What each named update of the state leaves as it was: one theorem an update, a clause a field,
and what it writes. All true by computation, all rewrite rules. -/

namespace Sys2Proof.Machine

/-! ## Fields an update leaves -/

@[simp] theorem setSlot_leaves (s : P60) (k : SlotId) (x : Slot) :
    (s.setSlot k x).clock = s.clock ∧ (s.setSlot k x).draws = s.draws ∧ (s.setSlot k x).out = s.out ∧
    (s.setSlot k x).tasks = s.tasks ∧ (s.setSlot k x).scanDue = s.scanDue ∧ (s.setSlot k x).nvm = s.nvm ∧
    (s.setSlot k x).writes = s.writes ∧ (s.setSlot k x).plan = s.plan ∧
    (s.setSlot k x).sections = s.sections ∧ (s.setSlot k x).turnouts = s.turnouts ∧
    (s.setSlot k x).throwQueue = s.throwQueue ∧ (s.setSlot k x).orders = s.orders ∧
    (s.setSlot k x).scanning = s.scanning ∧ (s.setSlot k x).scanPending = s.scanPending ∧
    (s.setSlot k x).deadlock = s.deadlock ∧ (s.setSlot k x).strangers = s.strangers ∧
    (s.setSlot k x).changeSet = s.changeSet ∧ (s.setSlot k x).allStop = s.allStop ∧
    (s.setSlot k x).pads = s.pads ∧ (s.setSlot k x).windInput = s.windInput ∧
    (s.setSlot k x).ladenPolicy = s.ladenPolicy ∧ (s.setSlot k x).unladenPolicy = s.unladenPolicy ∧
    (s.setSlot k x).feeders = s.feeders ∧ (s.setSlot k x).estopInput = s.estopInput ∧
    (s.setSlot k x).estop = s.estop ∧ (s.setSlot k x).silence = s.silence ∧
    (s.setSlot k x).requests = s.requests ∧ (s.setSlot k x).opsTx = s.opsTx ∧
    (s.setSlot k x).restart = s.restart ∧ (s.setSlot k x).conds = s.conds ∧
    (s.setSlot k x).counts = s.counts ∧ (s.setSlot k x).units = s.units ∧
    (s.setSlot k x).exchange = s.exchange ∧ (s.setSlot k x).fieldTag = s.fieldTag ∧
    (s.setSlot k x).commands = s.commands ∧ (s.setSlot k x).sweep = s.sweep ∧
    (s.setSlot k x).opsRx = s.opsRx ∧ (s.setSlot k x).transporterRx = s.transporterRx ∧
    (s.setSlot k x).fieldRx = s.fieldRx := by
  and_intros <;> rfl

@[simp] theorem updSlot_leaves (s : P60) (k : SlotId) (f : Slot → Slot) :
    (s.updSlot k f).clock = s.clock ∧ (s.updSlot k f).draws = s.draws ∧ (s.updSlot k f).out = s.out ∧
    (s.updSlot k f).tasks = s.tasks ∧ (s.updSlot k f).scanDue = s.scanDue ∧ (s.updSlot k f).nvm = s.nvm ∧
    (s.updSlot k f).writes = s.writes ∧ (s.updSlot k f).plan = s.plan ∧
    (s.updSlot k f).sections = s.sections ∧ (s.updSlot k f).turnouts = s.turnouts ∧
    (s.updSlot k f).throwQueue = s.throwQueue ∧ (s.updSlot k f).orders = s.orders ∧
    (s.updSlot k f).scanning = s.scanning ∧ (s.updSlot k f).scanPending = s.scanPending ∧
    (s.updSlot k f).deadlock = s.deadlock ∧ (s.updSlot k f).strangers = s.strangers ∧
    (s.updSlot k f).changeSet = s.changeSet ∧ (s.updSlot k f).allStop = s.allStop ∧
    (s.updSlot k f).pads = s.pads ∧ (s.updSlot k f).windInput = s.windInput ∧
    (s.updSlot k f).ladenPolicy = s.ladenPolicy ∧ (s.updSlot k f).unladenPolicy = s.unladenPolicy ∧
    (s.updSlot k f).feeders = s.feeders ∧ (s.updSlot k f).estopInput = s.estopInput ∧
    (s.updSlot k f).estop = s.estop ∧ (s.updSlot k f).silence = s.silence ∧
    (s.updSlot k f).requests = s.requests ∧ (s.updSlot k f).opsTx = s.opsTx ∧
    (s.updSlot k f).restart = s.restart ∧ (s.updSlot k f).conds = s.conds ∧
    (s.updSlot k f).counts = s.counts ∧ (s.updSlot k f).units = s.units ∧
    (s.updSlot k f).exchange = s.exchange ∧ (s.updSlot k f).fieldTag = s.fieldTag ∧
    (s.updSlot k f).commands = s.commands ∧ (s.updSlot k f).sweep = s.sweep ∧
    (s.updSlot k f).opsRx = s.opsRx ∧ (s.updSlot k f).transporterRx = s.transporterRx ∧
    (s.updSlot k f).fieldRx = s.fieldRx := by
  and_intros <;> rfl

@[simp] theorem updSection_leaves (s : P60) (n : Nat) (f : SectionRec → SectionRec) :
    (s.updSection n f).clock = s.clock ∧ (s.updSection n f).draws = s.draws ∧
    (s.updSection n f).out = s.out ∧ (s.updSection n f).tasks = s.tasks ∧
    (s.updSection n f).scanDue = s.scanDue ∧ (s.updSection n f).nvm = s.nvm ∧
    (s.updSection n f).writes = s.writes ∧ (s.updSection n f).plan = s.plan ∧
    (s.updSection n f).turnouts = s.turnouts ∧ (s.updSection n f).throwQueue = s.throwQueue ∧
    (s.updSection n f).orders = s.orders ∧ (s.updSection n f).scanning = s.scanning ∧
    (s.updSection n f).scanPending = s.scanPending ∧ (s.updSection n f).deadlock = s.deadlock ∧
    (s.updSection n f).slots = s.slots ∧ (s.updSection n f).strangers = s.strangers ∧
    (s.updSection n f).changeSet = s.changeSet ∧ (s.updSection n f).allStop = s.allStop ∧
    (s.updSection n f).pads = s.pads ∧ (s.updSection n f).windInput = s.windInput ∧
    (s.updSection n f).ladenPolicy = s.ladenPolicy ∧ (s.updSection n f).unladenPolicy = s.unladenPolicy ∧
    (s.updSection n f).feeders = s.feeders ∧ (s.updSection n f).estopInput = s.estopInput ∧
    (s.updSection n f).estop = s.estop ∧ (s.updSection n f).silence = s.silence ∧
    (s.updSection n f).requests = s.requests ∧ (s.updSection n f).opsTx = s.opsTx ∧
    (s.updSection n f).restart = s.restart ∧ (s.updSection n f).conds = s.conds ∧
    (s.updSection n f).counts = s.counts ∧ (s.updSection n f).units = s.units ∧
    (s.updSection n f).exchange = s.exchange ∧ (s.updSection n f).fieldTag = s.fieldTag ∧
    (s.updSection n f).commands = s.commands ∧ (s.updSection n f).sweep = s.sweep ∧
    (s.updSection n f).opsRx = s.opsRx ∧ (s.updSection n f).transporterRx = s.transporterRx ∧
    (s.updSection n f).fieldRx = s.fieldRx := by
  and_intros <;> rfl

@[simp] theorem updTurnout_leaves (s : P60) (t : Nat) (f : TurnoutRec → TurnoutRec) :
    (s.updTurnout t f).clock = s.clock ∧ (s.updTurnout t f).draws = s.draws ∧
    (s.updTurnout t f).out = s.out ∧ (s.updTurnout t f).tasks = s.tasks ∧
    (s.updTurnout t f).scanDue = s.scanDue ∧ (s.updTurnout t f).nvm = s.nvm ∧
    (s.updTurnout t f).writes = s.writes ∧ (s.updTurnout t f).plan = s.plan ∧
    (s.updTurnout t f).sections = s.sections ∧ (s.updTurnout t f).throwQueue = s.throwQueue ∧
    (s.updTurnout t f).orders = s.orders ∧ (s.updTurnout t f).scanning = s.scanning ∧
    (s.updTurnout t f).scanPending = s.scanPending ∧ (s.updTurnout t f).deadlock = s.deadlock ∧
    (s.updTurnout t f).slots = s.slots ∧ (s.updTurnout t f).strangers = s.strangers ∧
    (s.updTurnout t f).changeSet = s.changeSet ∧ (s.updTurnout t f).allStop = s.allStop ∧
    (s.updTurnout t f).pads = s.pads ∧ (s.updTurnout t f).windInput = s.windInput ∧
    (s.updTurnout t f).ladenPolicy = s.ladenPolicy ∧ (s.updTurnout t f).unladenPolicy = s.unladenPolicy ∧
    (s.updTurnout t f).feeders = s.feeders ∧ (s.updTurnout t f).estopInput = s.estopInput ∧
    (s.updTurnout t f).estop = s.estop ∧ (s.updTurnout t f).silence = s.silence ∧
    (s.updTurnout t f).requests = s.requests ∧ (s.updTurnout t f).opsTx = s.opsTx ∧
    (s.updTurnout t f).restart = s.restart ∧ (s.updTurnout t f).conds = s.conds ∧
    (s.updTurnout t f).counts = s.counts ∧ (s.updTurnout t f).units = s.units ∧
    (s.updTurnout t f).exchange = s.exchange ∧ (s.updTurnout t f).fieldTag = s.fieldTag ∧
    (s.updTurnout t f).commands = s.commands ∧ (s.updTurnout t f).sweep = s.sweep ∧
    (s.updTurnout t f).opsRx = s.opsRx ∧ (s.updTurnout t f).transporterRx = s.transporterRx ∧
    (s.updTurnout t f).fieldRx = s.fieldRx := by
  and_intros <;> rfl

@[simp] theorem updOrder_leaves (s : P60) (id : Nat) (f : Order → Order) :
    (s.updOrder id f).clock = s.clock ∧ (s.updOrder id f).draws = s.draws ∧ (s.updOrder id f).out = s.out ∧
    (s.updOrder id f).tasks = s.tasks ∧ (s.updOrder id f).scanDue = s.scanDue ∧
    (s.updOrder id f).nvm = s.nvm ∧ (s.updOrder id f).writes = s.writes ∧ (s.updOrder id f).plan = s.plan ∧
    (s.updOrder id f).sections = s.sections ∧ (s.updOrder id f).turnouts = s.turnouts ∧
    (s.updOrder id f).throwQueue = s.throwQueue ∧ (s.updOrder id f).scanning = s.scanning ∧
    (s.updOrder id f).scanPending = s.scanPending ∧ (s.updOrder id f).deadlock = s.deadlock ∧
    (s.updOrder id f).slots = s.slots ∧ (s.updOrder id f).strangers = s.strangers ∧
    (s.updOrder id f).changeSet = s.changeSet ∧ (s.updOrder id f).allStop = s.allStop ∧
    (s.updOrder id f).pads = s.pads ∧ (s.updOrder id f).windInput = s.windInput ∧
    (s.updOrder id f).ladenPolicy = s.ladenPolicy ∧ (s.updOrder id f).unladenPolicy = s.unladenPolicy ∧
    (s.updOrder id f).feeders = s.feeders ∧ (s.updOrder id f).estopInput = s.estopInput ∧
    (s.updOrder id f).estop = s.estop ∧ (s.updOrder id f).silence = s.silence ∧
    (s.updOrder id f).requests = s.requests ∧ (s.updOrder id f).opsTx = s.opsTx ∧
    (s.updOrder id f).restart = s.restart ∧ (s.updOrder id f).conds = s.conds ∧
    (s.updOrder id f).counts = s.counts ∧ (s.updOrder id f).units = s.units ∧
    (s.updOrder id f).exchange = s.exchange ∧ (s.updOrder id f).fieldTag = s.fieldTag ∧
    (s.updOrder id f).commands = s.commands ∧ (s.updOrder id f).sweep = s.sweep ∧
    (s.updOrder id f).opsRx = s.opsRx ∧ (s.updOrder id f).transporterRx = s.transporterRx ∧
    (s.updOrder id f).fieldRx = s.fieldRx := by
  and_intros <;> rfl

@[simp] theorem updUnit_leaves (s : P60) (a : Nat) (f : FieldUnit → FieldUnit) :
    (s.updUnit a f).clock = s.clock ∧ (s.updUnit a f).draws = s.draws ∧ (s.updUnit a f).out = s.out ∧
    (s.updUnit a f).tasks = s.tasks ∧ (s.updUnit a f).scanDue = s.scanDue ∧ (s.updUnit a f).nvm = s.nvm ∧
    (s.updUnit a f).writes = s.writes ∧ (s.updUnit a f).plan = s.plan ∧
    (s.updUnit a f).sections = s.sections ∧ (s.updUnit a f).turnouts = s.turnouts ∧
    (s.updUnit a f).throwQueue = s.throwQueue ∧ (s.updUnit a f).orders = s.orders ∧
    (s.updUnit a f).scanning = s.scanning ∧ (s.updUnit a f).scanPending = s.scanPending ∧
    (s.updUnit a f).deadlock = s.deadlock ∧ (s.updUnit a f).slots = s.slots ∧
    (s.updUnit a f).strangers = s.strangers ∧ (s.updUnit a f).changeSet = s.changeSet ∧
    (s.updUnit a f).allStop = s.allStop ∧ (s.updUnit a f).pads = s.pads ∧
    (s.updUnit a f).windInput = s.windInput ∧ (s.updUnit a f).ladenPolicy = s.ladenPolicy ∧
    (s.updUnit a f).unladenPolicy = s.unladenPolicy ∧ (s.updUnit a f).feeders = s.feeders ∧
    (s.updUnit a f).estopInput = s.estopInput ∧ (s.updUnit a f).estop = s.estop ∧
    (s.updUnit a f).silence = s.silence ∧ (s.updUnit a f).requests = s.requests ∧
    (s.updUnit a f).opsTx = s.opsTx ∧ (s.updUnit a f).restart = s.restart ∧
    (s.updUnit a f).conds = s.conds ∧ (s.updUnit a f).counts = s.counts ∧
    (s.updUnit a f).exchange = s.exchange ∧ (s.updUnit a f).fieldTag = s.fieldTag ∧
    (s.updUnit a f).commands = s.commands ∧ (s.updUnit a f).sweep = s.sweep ∧
    (s.updUnit a f).opsRx = s.opsRx ∧ (s.updUnit a f).transporterRx = s.transporterRx ∧
    (s.updUnit a f).fieldRx = s.fieldRx := by
  and_intros <;> rfl

@[simp] theorem updPad_leaves (s : P60) (n : Nat) (f : PadRec → PadRec) :
    (s.updPad n f).clock = s.clock ∧ (s.updPad n f).draws = s.draws ∧ (s.updPad n f).out = s.out ∧
    (s.updPad n f).tasks = s.tasks ∧ (s.updPad n f).scanDue = s.scanDue ∧ (s.updPad n f).nvm = s.nvm ∧
    (s.updPad n f).writes = s.writes ∧ (s.updPad n f).plan = s.plan ∧
    (s.updPad n f).sections = s.sections ∧ (s.updPad n f).turnouts = s.turnouts ∧
    (s.updPad n f).throwQueue = s.throwQueue ∧ (s.updPad n f).orders = s.orders ∧
    (s.updPad n f).scanning = s.scanning ∧ (s.updPad n f).scanPending = s.scanPending ∧
    (s.updPad n f).deadlock = s.deadlock ∧ (s.updPad n f).slots = s.slots ∧
    (s.updPad n f).strangers = s.strangers ∧ (s.updPad n f).changeSet = s.changeSet ∧
    (s.updPad n f).allStop = s.allStop ∧ (s.updPad n f).windInput = s.windInput ∧
    (s.updPad n f).ladenPolicy = s.ladenPolicy ∧ (s.updPad n f).unladenPolicy = s.unladenPolicy ∧
    (s.updPad n f).feeders = s.feeders ∧ (s.updPad n f).estopInput = s.estopInput ∧
    (s.updPad n f).estop = s.estop ∧ (s.updPad n f).silence = s.silence ∧
    (s.updPad n f).requests = s.requests ∧ (s.updPad n f).opsTx = s.opsTx ∧
    (s.updPad n f).restart = s.restart ∧ (s.updPad n f).conds = s.conds ∧
    (s.updPad n f).counts = s.counts ∧ (s.updPad n f).units = s.units ∧
    (s.updPad n f).exchange = s.exchange ∧ (s.updPad n f).fieldTag = s.fieldTag ∧
    (s.updPad n f).commands = s.commands ∧ (s.updPad n f).sweep = s.sweep ∧
    (s.updPad n f).opsRx = s.opsRx ∧ (s.updPad n f).transporterRx = s.transporterRx ∧
    (s.updPad n f).fieldRx = s.fieldRx := by
  and_intros <;> rfl

@[simp] theorem updFeeder_leaves (s : P60) (f : FeederId) (g : Feeder → Feeder) :
    (s.updFeeder f g).clock = s.clock ∧ (s.updFeeder f g).draws = s.draws ∧ (s.updFeeder f g).out = s.out ∧
    (s.updFeeder f g).tasks = s.tasks ∧ (s.updFeeder f g).scanDue = s.scanDue ∧
    (s.updFeeder f g).nvm = s.nvm ∧ (s.updFeeder f g).writes = s.writes ∧ (s.updFeeder f g).plan = s.plan ∧
    (s.updFeeder f g).sections = s.sections ∧ (s.updFeeder f g).turnouts = s.turnouts ∧
    (s.updFeeder f g).throwQueue = s.throwQueue ∧ (s.updFeeder f g).orders = s.orders ∧
    (s.updFeeder f g).scanning = s.scanning ∧ (s.updFeeder f g).scanPending = s.scanPending ∧
    (s.updFeeder f g).deadlock = s.deadlock ∧ (s.updFeeder f g).slots = s.slots ∧
    (s.updFeeder f g).strangers = s.strangers ∧ (s.updFeeder f g).changeSet = s.changeSet ∧
    (s.updFeeder f g).allStop = s.allStop ∧ (s.updFeeder f g).pads = s.pads ∧
    (s.updFeeder f g).windInput = s.windInput ∧ (s.updFeeder f g).ladenPolicy = s.ladenPolicy ∧
    (s.updFeeder f g).unladenPolicy = s.unladenPolicy ∧ (s.updFeeder f g).estopInput = s.estopInput ∧
    (s.updFeeder f g).estop = s.estop ∧ (s.updFeeder f g).silence = s.silence ∧
    (s.updFeeder f g).requests = s.requests ∧ (s.updFeeder f g).opsTx = s.opsTx ∧
    (s.updFeeder f g).restart = s.restart ∧ (s.updFeeder f g).conds = s.conds ∧
    (s.updFeeder f g).counts = s.counts ∧ (s.updFeeder f g).units = s.units ∧
    (s.updFeeder f g).exchange = s.exchange ∧ (s.updFeeder f g).fieldTag = s.fieldTag ∧
    (s.updFeeder f g).commands = s.commands ∧ (s.updFeeder f g).sweep = s.sweep ∧
    (s.updFeeder f g).opsRx = s.opsRx ∧ (s.updFeeder f g).transporterRx = s.transporterRx ∧
    (s.updFeeder f g).fieldRx = s.fieldRx := by
  and_intros <;> rfl

@[simp] theorem updStranger_leaves (s : P60) (i : Identity) (f : Stranger → Stranger) :
    (s.updStranger i f).clock = s.clock ∧ (s.updStranger i f).draws = s.draws ∧
    (s.updStranger i f).out = s.out ∧ (s.updStranger i f).tasks = s.tasks ∧
    (s.updStranger i f).scanDue = s.scanDue ∧ (s.updStranger i f).nvm = s.nvm ∧
    (s.updStranger i f).writes = s.writes ∧ (s.updStranger i f).plan = s.plan ∧
    (s.updStranger i f).sections = s.sections ∧ (s.updStranger i f).turnouts = s.turnouts ∧
    (s.updStranger i f).throwQueue = s.throwQueue ∧ (s.updStranger i f).orders = s.orders ∧
    (s.updStranger i f).scanning = s.scanning ∧ (s.updStranger i f).scanPending = s.scanPending ∧
    (s.updStranger i f).deadlock = s.deadlock ∧ (s.updStranger i f).slots = s.slots ∧
    (s.updStranger i f).changeSet = s.changeSet ∧ (s.updStranger i f).allStop = s.allStop ∧
    (s.updStranger i f).pads = s.pads ∧ (s.updStranger i f).windInput = s.windInput ∧
    (s.updStranger i f).ladenPolicy = s.ladenPolicy ∧ (s.updStranger i f).unladenPolicy = s.unladenPolicy ∧
    (s.updStranger i f).feeders = s.feeders ∧ (s.updStranger i f).estopInput = s.estopInput ∧
    (s.updStranger i f).estop = s.estop ∧ (s.updStranger i f).silence = s.silence ∧
    (s.updStranger i f).requests = s.requests ∧ (s.updStranger i f).opsTx = s.opsTx ∧
    (s.updStranger i f).restart = s.restart ∧ (s.updStranger i f).conds = s.conds ∧
    (s.updStranger i f).counts = s.counts ∧ (s.updStranger i f).units = s.units ∧
    (s.updStranger i f).exchange = s.exchange ∧ (s.updStranger i f).fieldTag = s.fieldTag ∧
    (s.updStranger i f).commands = s.commands ∧ (s.updStranger i f).sweep = s.sweep ∧
    (s.updStranger i f).opsRx = s.opsRx ∧ (s.updStranger i f).transporterRx = s.transporterRx ∧
    (s.updStranger i f).fieldRx = s.fieldRx := by
  and_intros <;> rfl

@[simp] theorem setLocation_leaves (s : P60) (t : Nat) (l : Location) :
    (s.setLocation t l).clock = s.clock ∧ (s.setLocation t l).draws = s.draws ∧
    (s.setLocation t l).out = s.out ∧ (s.setLocation t l).tasks = s.tasks ∧
    (s.setLocation t l).scanDue = s.scanDue ∧ (s.setLocation t l).writes = s.writes ∧
    (s.setLocation t l).plan = s.plan ∧ (s.setLocation t l).sections = s.sections ∧
    (s.setLocation t l).turnouts = s.turnouts ∧ (s.setLocation t l).throwQueue = s.throwQueue ∧
    (s.setLocation t l).orders = s.orders ∧ (s.setLocation t l).scanning = s.scanning ∧
    (s.setLocation t l).scanPending = s.scanPending ∧ (s.setLocation t l).deadlock = s.deadlock ∧
    (s.setLocation t l).slots = s.slots ∧ (s.setLocation t l).strangers = s.strangers ∧
    (s.setLocation t l).changeSet = s.changeSet ∧ (s.setLocation t l).allStop = s.allStop ∧
    (s.setLocation t l).pads = s.pads ∧ (s.setLocation t l).windInput = s.windInput ∧
    (s.setLocation t l).ladenPolicy = s.ladenPolicy ∧ (s.setLocation t l).unladenPolicy = s.unladenPolicy ∧
    (s.setLocation t l).feeders = s.feeders ∧ (s.setLocation t l).estopInput = s.estopInput ∧
    (s.setLocation t l).estop = s.estop ∧ (s.setLocation t l).silence = s.silence ∧
    (s.setLocation t l).requests = s.requests ∧ (s.setLocation t l).opsTx = s.opsTx ∧
    (s.setLocation t l).restart = s.restart ∧ (s.setLocation t l).conds = s.conds ∧
    (s.setLocation t l).counts = s.counts ∧ (s.setLocation t l).units = s.units ∧
    (s.setLocation t l).exchange = s.exchange ∧ (s.setLocation t l).fieldTag = s.fieldTag ∧
    (s.setLocation t l).commands = s.commands ∧ (s.setLocation t l).sweep = s.sweep ∧
    (s.setLocation t l).opsRx = s.opsRx ∧ (s.setLocation t l).transporterRx = s.transporterRx ∧
    (s.setLocation t l).fieldRx = s.fieldRx := by
  and_intros <;> rfl

@[simp] theorem send_leaves (s : P60) (f : Frame) :
    (s.send f).clock = s.clock ∧ (s.send f).draws = s.draws ∧ (s.send f).tasks = s.tasks ∧
    (s.send f).scanDue = s.scanDue ∧ (s.send f).nvm = s.nvm ∧ (s.send f).writes = s.writes ∧
    (s.send f).plan = s.plan ∧ (s.send f).sections = s.sections ∧ (s.send f).turnouts = s.turnouts ∧
    (s.send f).throwQueue = s.throwQueue ∧ (s.send f).orders = s.orders ∧
    (s.send f).scanning = s.scanning ∧ (s.send f).scanPending = s.scanPending ∧
    (s.send f).deadlock = s.deadlock ∧ (s.send f).slots = s.slots ∧ (s.send f).strangers = s.strangers ∧
    (s.send f).changeSet = s.changeSet ∧ (s.send f).allStop = s.allStop ∧ (s.send f).pads = s.pads ∧
    (s.send f).windInput = s.windInput ∧ (s.send f).ladenPolicy = s.ladenPolicy ∧
    (s.send f).unladenPolicy = s.unladenPolicy ∧ (s.send f).feeders = s.feeders ∧
    (s.send f).estopInput = s.estopInput ∧ (s.send f).estop = s.estop ∧ (s.send f).silence = s.silence ∧
    (s.send f).requests = s.requests ∧ (s.send f).opsTx = s.opsTx ∧ (s.send f).restart = s.restart ∧
    (s.send f).conds = s.conds ∧ (s.send f).counts = s.counts ∧ (s.send f).units = s.units ∧
    (s.send f).exchange = s.exchange ∧ (s.send f).fieldTag = s.fieldTag ∧
    (s.send f).commands = s.commands ∧ (s.send f).sweep = s.sweep ∧ (s.send f).opsRx = s.opsRx ∧
    (s.send f).transporterRx = s.transporterRx ∧ (s.send f).fieldRx = s.fieldRx := by
  and_intros <;> rfl

@[simp] theorem trigger_leaves (s : P60) :
    (s.trigger).clock = s.clock ∧ (s.trigger).draws = s.draws ∧ (s.trigger).out = s.out ∧
    (s.trigger).tasks = s.tasks ∧ (s.trigger).nvm = s.nvm ∧ (s.trigger).writes = s.writes ∧
    (s.trigger).plan = s.plan ∧ (s.trigger).sections = s.sections ∧ (s.trigger).turnouts = s.turnouts ∧
    (s.trigger).throwQueue = s.throwQueue ∧ (s.trigger).orders = s.orders ∧
    (s.trigger).scanning = s.scanning ∧
    (s.trigger).deadlock = s.deadlock ∧ (s.trigger).slots = s.slots ∧ (s.trigger).strangers = s.strangers ∧
    (s.trigger).changeSet = s.changeSet ∧ (s.trigger).allStop = s.allStop ∧ (s.trigger).pads = s.pads ∧
    (s.trigger).windInput = s.windInput ∧ (s.trigger).ladenPolicy = s.ladenPolicy ∧
    (s.trigger).unladenPolicy = s.unladenPolicy ∧ (s.trigger).feeders = s.feeders ∧
    (s.trigger).estopInput = s.estopInput ∧ (s.trigger).estop = s.estop ∧ (s.trigger).silence = s.silence ∧
    (s.trigger).requests = s.requests ∧ (s.trigger).opsTx = s.opsTx ∧ (s.trigger).restart = s.restart ∧
    (s.trigger).conds = s.conds ∧ (s.trigger).counts = s.counts ∧ (s.trigger).units = s.units ∧
    (s.trigger).exchange = s.exchange ∧ (s.trigger).fieldTag = s.fieldTag ∧
    (s.trigger).commands = s.commands ∧ (s.trigger).sweep = s.sweep ∧ (s.trigger).opsRx = s.opsRx ∧
    (s.trigger).transporterRx = s.transporterRx ∧ (s.trigger).fieldRx = s.fieldRx := by
  and_intros <;> rfl

@[simp] theorem oweCheck_leaves (s : P60) (n : Nat) :
    (s.oweCheck n).clock = s.clock ∧ (s.oweCheck n).draws = s.draws ∧ (s.oweCheck n).out = s.out ∧
    (s.oweCheck n).scanDue = s.scanDue ∧ (s.oweCheck n).nvm = s.nvm ∧ (s.oweCheck n).writes = s.writes ∧
    (s.oweCheck n).plan = s.plan ∧ (s.oweCheck n).sections = s.sections ∧
    (s.oweCheck n).turnouts = s.turnouts ∧ (s.oweCheck n).throwQueue = s.throwQueue ∧
    (s.oweCheck n).orders = s.orders ∧ (s.oweCheck n).scanning = s.scanning ∧
    (s.oweCheck n).scanPending = s.scanPending ∧ (s.oweCheck n).deadlock = s.deadlock ∧
    (s.oweCheck n).slots = s.slots ∧ (s.oweCheck n).strangers = s.strangers ∧
    (s.oweCheck n).changeSet = s.changeSet ∧ (s.oweCheck n).allStop = s.allStop ∧
    (s.oweCheck n).pads = s.pads ∧ (s.oweCheck n).windInput = s.windInput ∧
    (s.oweCheck n).ladenPolicy = s.ladenPolicy ∧ (s.oweCheck n).unladenPolicy = s.unladenPolicy ∧
    (s.oweCheck n).feeders = s.feeders ∧ (s.oweCheck n).estopInput = s.estopInput ∧
    (s.oweCheck n).estop = s.estop ∧ (s.oweCheck n).silence = s.silence ∧
    (s.oweCheck n).requests = s.requests ∧ (s.oweCheck n).opsTx = s.opsTx ∧
    (s.oweCheck n).restart = s.restart ∧ (s.oweCheck n).conds = s.conds ∧
    (s.oweCheck n).counts = s.counts ∧ (s.oweCheck n).units = s.units ∧
    (s.oweCheck n).exchange = s.exchange ∧ (s.oweCheck n).fieldTag = s.fieldTag ∧
    (s.oweCheck n).commands = s.commands ∧ (s.oweCheck n).sweep = s.sweep ∧
    (s.oweCheck n).opsRx = s.opsRx ∧ (s.oweCheck n).transporterRx = s.transporterRx ∧
    (s.oweCheck n).fieldRx = s.fieldRx := by
  and_intros <;> rfl

@[simp] theorem raise_leaves (s : P60) (e : EventKind) :
    (s.raise e).clock = s.clock ∧ (s.raise e).draws = s.draws ∧ (s.raise e).out = s.out ∧
    (s.raise e).tasks = s.tasks ∧ (s.raise e).scanDue = s.scanDue ∧ (s.raise e).nvm = s.nvm ∧
    (s.raise e).writes = s.writes ∧ (s.raise e).plan = s.plan ∧ (s.raise e).sections = s.sections ∧
    (s.raise e).turnouts = s.turnouts ∧ (s.raise e).throwQueue = s.throwQueue ∧
    (s.raise e).orders = s.orders ∧ (s.raise e).scanning = s.scanning ∧
    (s.raise e).scanPending = s.scanPending ∧ (s.raise e).deadlock = s.deadlock ∧
    (s.raise e).slots = s.slots ∧ (s.raise e).strangers = s.strangers ∧
    (s.raise e).changeSet = s.changeSet ∧ (s.raise e).allStop = s.allStop ∧ (s.raise e).pads = s.pads ∧
    (s.raise e).windInput = s.windInput ∧ (s.raise e).ladenPolicy = s.ladenPolicy ∧
    (s.raise e).unladenPolicy = s.unladenPolicy ∧ (s.raise e).feeders = s.feeders ∧
    (s.raise e).estopInput = s.estopInput ∧ (s.raise e).estop = s.estop ∧ (s.raise e).silence = s.silence ∧
    (s.raise e).requests = s.requests ∧ (s.raise e).restart = s.restart ∧ (s.raise e).conds = s.conds ∧
    (s.raise e).units = s.units ∧ (s.raise e).exchange = s.exchange ∧ (s.raise e).fieldTag = s.fieldTag ∧
    (s.raise e).commands = s.commands ∧ (s.raise e).sweep = s.sweep ∧ (s.raise e).opsRx = s.opsRx ∧
    (s.raise e).transporterRx = s.transporterRx ∧ (s.raise e).fieldRx = s.fieldRx := by
  and_intros <;> rfl

@[simp] theorem syncAttention_leaves (s : P60) :
    (s.syncAttention).clock = s.clock ∧ (s.syncAttention).draws = s.draws ∧ (s.syncAttention).out = s.out ∧
    (s.syncAttention).tasks = s.tasks ∧ (s.syncAttention).scanDue = s.scanDue ∧
    (s.syncAttention).nvm = s.nvm ∧ (s.syncAttention).writes = s.writes ∧ (s.syncAttention).plan = s.plan ∧
    (s.syncAttention).sections = s.sections ∧ (s.syncAttention).turnouts = s.turnouts ∧
    (s.syncAttention).throwQueue = s.throwQueue ∧ (s.syncAttention).orders = s.orders ∧
    (s.syncAttention).scanning = s.scanning ∧ (s.syncAttention).scanPending = s.scanPending ∧
    (s.syncAttention).deadlock = s.deadlock ∧ (s.syncAttention).slots = s.slots ∧
    (s.syncAttention).strangers = s.strangers ∧ (s.syncAttention).changeSet = s.changeSet ∧
    (s.syncAttention).allStop = s.allStop ∧ (s.syncAttention).pads = s.pads ∧
    (s.syncAttention).windInput = s.windInput ∧ (s.syncAttention).ladenPolicy = s.ladenPolicy ∧
    (s.syncAttention).unladenPolicy = s.unladenPolicy ∧ (s.syncAttention).feeders = s.feeders ∧
    (s.syncAttention).estopInput = s.estopInput ∧ (s.syncAttention).estop = s.estop ∧
    (s.syncAttention).silence = s.silence ∧ (s.syncAttention).requests = s.requests ∧
    (s.syncAttention).restart = s.restart ∧ (s.syncAttention).counts = s.counts ∧
    (s.syncAttention).units = s.units ∧ (s.syncAttention).exchange = s.exchange ∧
    (s.syncAttention).fieldTag = s.fieldTag ∧ (s.syncAttention).commands = s.commands ∧
    (s.syncAttention).sweep = s.sweep ∧ (s.syncAttention).opsRx = s.opsRx ∧
    (s.syncAttention).transporterRx = s.transporterRx ∧ (s.syncAttention).fieldRx = s.fieldRx := by
  and_intros <;> rfl

@[simp] theorem answer_leaves (s : P60) (r : Request) (a : Answer) :
    (s.answer r a).clock = s.clock ∧ (s.answer r a).draws = s.draws ∧ (s.answer r a).out = s.out ∧
    (s.answer r a).tasks = s.tasks ∧ (s.answer r a).scanDue = s.scanDue ∧ (s.answer r a).nvm = s.nvm ∧
    (s.answer r a).writes = s.writes ∧ (s.answer r a).plan = s.plan ∧
    (s.answer r a).sections = s.sections ∧ (s.answer r a).turnouts = s.turnouts ∧
    (s.answer r a).throwQueue = s.throwQueue ∧ (s.answer r a).orders = s.orders ∧
    (s.answer r a).scanning = s.scanning ∧ (s.answer r a).scanPending = s.scanPending ∧
    (s.answer r a).deadlock = s.deadlock ∧ (s.answer r a).slots = s.slots ∧
    (s.answer r a).strangers = s.strangers ∧ (s.answer r a).changeSet = s.changeSet ∧
    (s.answer r a).allStop = s.allStop ∧ (s.answer r a).pads = s.pads ∧
    (s.answer r a).windInput = s.windInput ∧ (s.answer r a).ladenPolicy = s.ladenPolicy ∧
    (s.answer r a).unladenPolicy = s.unladenPolicy ∧ (s.answer r a).feeders = s.feeders ∧
    (s.answer r a).estopInput = s.estopInput ∧ (s.answer r a).estop = s.estop ∧
    (s.answer r a).silence = s.silence ∧ (s.answer r a).restart = s.restart ∧
    (s.answer r a).conds = s.conds ∧ (s.answer r a).counts = s.counts ∧ (s.answer r a).units = s.units ∧
    (s.answer r a).exchange = s.exchange ∧ (s.answer r a).fieldTag = s.fieldTag ∧
    (s.answer r a).commands = s.commands ∧ (s.answer r a).sweep = s.sweep ∧
    (s.answer r a).opsRx = s.opsRx ∧ (s.answer r a).transporterRx = s.transporterRx ∧
    (s.answer r a).fieldRx = s.fieldRx := by
  and_intros <;> rfl

@[simp] theorem quiet_leaves (s : P60) :
    (s.quiet).clock = s.clock ∧ (s.quiet).draws = s.draws ∧ (s.quiet).tasks = s.tasks ∧
    (s.quiet).scanDue = s.scanDue ∧ (s.quiet).nvm = s.nvm ∧ (s.quiet).writes = s.writes ∧
    (s.quiet).plan = s.plan ∧ (s.quiet).sections = s.sections ∧ (s.quiet).turnouts = s.turnouts ∧
    (s.quiet).throwQueue = s.throwQueue ∧ (s.quiet).orders = s.orders ∧ (s.quiet).scanning = s.scanning ∧
    (s.quiet).scanPending = s.scanPending ∧ (s.quiet).deadlock = s.deadlock ∧ (s.quiet).slots = s.slots ∧
    (s.quiet).strangers = s.strangers ∧ (s.quiet).changeSet = s.changeSet ∧ (s.quiet).allStop = s.allStop ∧
    (s.quiet).pads = s.pads ∧ (s.quiet).windInput = s.windInput ∧ (s.quiet).ladenPolicy = s.ladenPolicy ∧
    (s.quiet).unladenPolicy = s.unladenPolicy ∧ (s.quiet).feeders = s.feeders ∧
    (s.quiet).estopInput = s.estopInput ∧ (s.quiet).estop = s.estop ∧ (s.quiet).silence = s.silence ∧
    (s.quiet).requests = s.requests ∧ (s.quiet).opsTx = s.opsTx ∧ (s.quiet).restart = s.restart ∧
    (s.quiet).conds = s.conds ∧ (s.quiet).counts = s.counts ∧ (s.quiet).units = s.units ∧
    (s.quiet).exchange = s.exchange ∧ (s.quiet).fieldTag = s.fieldTag ∧ (s.quiet).commands = s.commands ∧
    (s.quiet).sweep = s.sweep ∧ (s.quiet).opsRx = s.opsRx ∧ (s.quiet).transporterRx = s.transporterRx ∧
    (s.quiet).fieldRx = s.fieldRx := by
  and_intros <;> rfl

/-! ## What an update writes -/

theorem get_eq_getElem {α : Type} {n : Nat} (v : Vector α n) (i : Fin n) : v.get i = v[(i : Nat)] := rfl

@[simp] theorem slot_setSlot (s : P60) (k j : SlotId) (x : Slot) :
    (s.setSlot k x).slot j = if k = j then x else s.slot j := by
  simp only [P60.setSlot, P60.slot, get_eq_getElem, Vector.getElem_set]
  by_cases h : k = j
  · simp [h]
  · have : (k : Nat) ≠ j := fun e => h (Fin.ext e)
    simp [h, this]

@[simp] theorem slot_updSlot (s : P60) (k j : SlotId) (f : Slot → Slot) :
    (s.updSlot k f).slot j = if k = j then f (s.slot j) else s.slot j := by
  unfold P60.updSlot
  rw [slot_setSlot]
  split
  · rename_i h
    rw [h]
  · rfl

@[simp] theorem sections_updSection (s : P60) (n : Nat) (f : SectionRec → SectionRec) :
    (s.updSection n f).sections = s.sections.map (fun r => if r.num = n then f r else r) := rfl

@[simp] theorem turnouts_updTurnout (s : P60) (t : Nat) (f : TurnoutRec → TurnoutRec) :
    (s.updTurnout t f).turnouts = s.turnouts.map (fun r => if r.num = t then f r else r) := rfl

@[simp] theorem orders_updOrder (s : P60) (id : Nat) (f : Order → Order) :
    (s.updOrder id f).orders = s.orders.map (fun o => if o.id = id then f o else o) := rfl

@[simp] theorem units_updUnit (s : P60) (a : Nat) (f : FieldUnit → FieldUnit) :
    (s.updUnit a f).units = s.units.map (fun u => if u.address = a then f u else u) := rfl

@[simp] theorem pads_updPad (s : P60) (n : Nat) (f : PadRec → PadRec) :
    (s.updPad n f).pads = s.pads.map (fun r => if r.num = n then f r else r) := rfl

@[simp] theorem strangers_updStranger (s : P60) (i : Identity) (f : Stranger → Stranger) :
    (s.updStranger i f).strangers = s.strangers.map (fun x => if x.ident = i then f x else x) := rfl

@[simp] theorem feeder_updFeeder (s : P60) (f g : FeederId) (h : Feeder → Feeder) :
    (s.updFeeder f h).feeder g = if f = g then h (s.feeder g) else s.feeder g := by
  simp only [P60.updFeeder, P60.feeder, get_eq_getElem, Vector.getElem_set]
  by_cases e : f = g
  · simp [e]
  · have : (f : Nat) ≠ g := fun c => e (Fin.ext c)
    simp [e, this]

@[simp] theorem out_send (s : P60) (f : Frame) : (s.send f).out = s.out ++ [f] := rfl

@[simp] theorem scanDue_trigger (s : P60) : s.trigger.scanDue = true := rfl

@[simp] theorem scanPending_trigger (s : P60) : s.trigger.scanPending = (s.scanPending || s.scanDue) := rfl

@[simp] theorem tasks_oweCheck (s : P60) (n : Nat) : (s.oweCheck n).tasks = s.tasks ++ [n] := rfl

@[simp] theorem conds_syncAttention (s : P60) : s.syncAttention.conds = s.condsNow := rfl

@[simp] theorem requests_answer (s : P60) (r : Request) (a : Answer) :
    (s.answer r a).requests = s.requests.tail := rfl

@[simp] theorem opsTx_answer (s : P60) (r : Request) (a : Answer) :
    (s.answer r a).opsTx = s.opsTx ++ [replyTo r a] := rfl

@[simp] theorem out_quiet (s : P60) : s.quiet.out = [] := rfl

/-! ## The queue of commands -/

@[simp] theorem run_eq (f : P60 → P60) (s : State) : run f s = .next { s with p60 := f s.p60 } := rfl

end Sys2Proof.Machine
end

