-- ==== Sys2Proof/Laws/Settle.lean ====
section
/-! SUPPORT. What a command's end can do: operation by operation, the part of the state it leaves alone. -/

namespace Sys2Proof.Machine

/-! ## Base updates -/

@[simp] theorem steady_setSlot (s : P60) (k : SlotId) (x : Slot) : (s.setSlot k x).steady = s.steady := rfl

@[simp] theorem steady_updSlot (s : P60) (k : SlotId) (f : Slot → Slot) :
    (s.updSlot k f).steady = s.steady := rfl

@[simp] theorem steady_updSection (s : P60) (n : Nat) (f : SectionRec → SectionRec) :
    (s.updSection n f).steady = s.steady := rfl

@[simp] theorem steady_setOcc (s : P60) (n : Nat) (o : Occupancy) : (s.setOcc n o).steady = s.steady := rfl

@[simp] theorem steady_updTurnout (s : P60) (t : Nat) (f : TurnoutRec → TurnoutRec) :
    (s.updTurnout t f).steady = s.steady := rfl

@[simp] theorem steady_updOrder (s : P60) (id : Nat) (f : Order → Order) :
    (s.updOrder id f).steady = s.steady := rfl

@[simp] theorem steady_setOrderState (s : P60) (id : Nat) (st : OrderState) :
    (s.setOrderState id st).steady = s.steady := rfl

@[simp] theorem steady_updProgress (s : P60) (k : SlotId) (f : Progress → Progress) :
    (s.updProgress k f).steady = s.steady := rfl

@[simp] theorem steady_updAuthority (s : P60) (k : SlotId) (f : Authority → Authority) :
    (s.updAuthority k f).steady = s.steady := rfl

@[simp] theorem steady_updMotion (s : P60) (k : SlotId) (f : Motion → Motion) :
    (s.updMotion k f).steady = s.steady := rfl

@[simp] theorem steady_updTimer (s : P60) (k : SlotId) (f : PassageTimer → PassageTimer) :
    (s.updTimer k f).steady = s.steady := rfl

@[simp] theorem steady_updDocking (s : P60) (k : SlotId) (f : Docking → Docking) :
    (s.updDocking k f).steady = s.steady := rfl

@[simp] theorem steady_updStranger (s : P60) (i : Identity) (f : Stranger → Stranger) :
    (s.updStranger i f).steady = s.steady := rfl

@[simp] theorem steady_dropStranger (s : P60) (i : Identity) : (s.dropStranger i).steady = s.steady := rfl

@[simp] theorem steady_send (s : P60) (f : Frame) : (s.send f).steady = s.steady := rfl

@[simp] theorem steady_raise (s : P60) (e : EventKind) : (s.raise e).steady = s.steady := rfl

@[simp] theorem steady_trigger (s : P60) : s.trigger.steady = s.steady := rfl

@[simp] theorem steady_oweCheck (s : P60) (n : Nat) : (s.oweCheck n).steady = s.steady := rfl

@[simp] theorem steady_syncAttention (s : P60) : s.syncAttention.steady = s.steady := rfl

@[simp] theorem steady_sendOnce (s : P60) (i : Identity) (p : Peer) (m : PeerMsg) :
    (s.sendOnce i p m).steady = s.steady := rfl

theorem steady_foldl {α : Type} (f : P60 → α → P60) (h : ∀ s a, (f s a).steady = s.steady) (l : List α)
    (s : P60) : (l.foldl f s).steady = s.steady := by
  induction l generalizing s with
  | nil => rfl
  | cons a l ih => rw [List.foldl_cons, ih, h]

/-! ## Links -/

@[simp] theorem steady_hand (s : P60) (k : SlotId) (place : PlaceName) (m : PeerMsg) :
    (s.hand k place m).steady = s.steady := by
  unfold P60.hand
  repeat' split
  all_goals simp

@[simp] theorem steady_command (s : P60) (a : Nat) (m : FieldMsg) : (s.command a m).steady = s.steady := by
  unfold P60.command
  repeat' split
  all_goals rfl

@[simp] theorem steady_commandTo (s : P60) (kind : UnitKind) (n : Nat) (m : FieldMsg) :
    (s.commandTo kind n m).steady = s.steady := by
  unfold P60.commandTo
  split <;> simp

/-! ## Throws -/

@[simp] theorem steady_beginThrow (s : P60) (t : Nat) (x : Leg) (sl : ThrowSlot) :
    (s.beginThrow t x sl).steady = s.steady := by simp [P60.beginThrow]

@[simp] theorem steady_arbiterFrom (q : List (Nat × Leg)) (s : P60) :
    (P60.arbiterFrom q s).steady = s.steady := by
  induction q generalizing s with
  | nil => rfl
  | cons e q ih =>
    unfold P60.arbiterFrom
    repeat' split
    all_goals first | rfl | simp [ih]

@[simp] theorem steady_arbiter (s : P60) : s.arbiter.steady = s.steady := by simp [P60.arbiter]

@[simp] theorem steady_throwRequest (s : P60) (t : Nat) (x : Leg) :
    (s.throwRequest t x).1.steady = s.steady := by
  unfold P60.throwRequest
  repeat' split
  all_goals first | rfl | (simp; rfl)

/-! ## Waits -/

@[simp] theorem steady_searchDeadlock (s : P60) (k : SlotId) : (s.searchDeadlock k).steady = s.steady := by
  unfold P60.searchDeadlock
  split
  · rfl
  · simp; rfl

@[simp] theorem steady_beginWait (s : P60) (k : SlotId) (n : Nat) (on : WaitOn) :
    (s.beginWait k n on).steady = s.steady := by
  unfold P60.beginWait
  cases on <;> simp

@[simp] theorem steady_recordWait (s : P60) (k : SlotId) (n : Nat) (on : WaitOn) :
    (s.recordWait k n on).steady = s.steady := by
  unfold P60.recordWait
  repeat' split
  all_goals simp

@[simp] theorem steady_leaveQueue (s : P60) (k : SlotId) (n : Nat) :
    (s.leaveQueue k n).steady = s.steady := by
  unfold P60.leaveQueue
  repeat' (first | split | simp)

@[simp] theorem steady_joinQueue (s : P60) (k : SlotId) (n : Nat) :
    (s.joinQueue k n).steady = s.steady := by
  unfold P60.joinQueue
  repeat' split
  all_goals simp

@[simp] theorem steady_withdrawWait (s : P60) (k : SlotId) : (s.withdrawWait k).steady = s.steady := by
  unfold P60.withdrawWait
  simp only [steady_updProgress]
  split <;> simp

@[simp] theorem steady_reviseWaits (s : P60) (n : Nat) (on : WaitOn) :
    (s.reviseWaits n on).steady = s.steady := by
  unfold P60.reviseWaits
  split
  · rfl
  · exact steady_foldl _ (by simp) _ _

/-! ## Reservation -/

@[simp] theorem steady_grant (s : P60) (k : SlotId) (n : Nat) (entry : Side) (x : Option Leg) :
    (s.grant k n entry x).steady = s.steady := by simp [P60.grant]

@[simp] theorem steady_askThrow (s : P60) (n : Nat) (x : Option Leg) :
    (s.askThrow n x).steady = s.steady := by
  unfold P60.askThrow
  split <;> simp

@[simp] theorem steady_attempt (s : P60) (k : SlotId) (st : RouteStep) :
    (s.attempt k st).1.steady = s.steady := by
  unfold P60.attempt
  repeat' split
  all_goals simp
  split <;> simp

@[simp] theorem steady_releaseNow (s : P60) (n : Nat) : (s.releaseNow n).steady = s.steady := by
  simp [P60.releaseNow]

@[simp] theorem steady_releaseRequest (s : P60) (n : Nat) (o : Owner) :
    (s.releaseRequest n o).steady = s.steady := by
  unfold P60.releaseRequest
  repeat' split
  all_goals simp

@[simp] theorem steady_releaseAll (s : P60) (l : List Nat) (o : Owner) :
    (s.releaseAll l o).steady = s.steady := by
  unfold P60.releaseAll
  exact steady_foldl _ (by simp) _ _

/-! ## Stages and timers -/

@[simp] theorem steady_judgeTimer (s : P60) (k : SlotId) : (s.judgeTimer k).steady = s.steady := by
  unfold P60.judgeTimer
  split <;> simp

@[simp] theorem steady_loadTimer (s : P60) (k : SlotId) (o : Order) (j : Nat) :
    (s.loadTimer k o j).steady = s.steady := by
  unfold P60.loadTimer
  split <;> simp

@[simp] theorem steady_stopTimerSuspended (s : P60) (k : SlotId) :
    (s.stopTimerSuspended k).steady = s.steady := rfl

@[simp] theorem steady_stopTimerFinished (s : P60) (k : SlotId) :
    (s.stopTimerFinished k).steady = s.steady := rfl

@[simp] theorem steady_setStatus (s : P60) (k : SlotId) (st : SlotState) :
    (s.setStatus k st).steady = s.steady := rfl

@[simp] theorem steady_becomeIdle (s : P60) (k : SlotId) : (s.becomeIdle k).steady = s.steady := by
  unfold P60.becomeIdle
  dsimp only
  split <;> simp

@[simp] theorem steady_setStage (s : P60) (k : SlotId) (g : Stage) (stop : Option Cause) :
    (s.setStage k g stop).steady = s.steady := by
  unfold P60.setStage
  split
  · rfl
  · simp only [steady_judgeTimer, steady_updSlot]
    split <;> simp

/-! ## Authority and the route setter -/

@[simp] theorem steady_sendAuthority (s : P60) (k : SlotId) (e : Eoa) :
    (s.sendAuthority k e).steady = s.steady := by simp [P60.sendAuthority]

@[simp] theorem steady_sendBrake (s : P60) (k : SlotId) : (s.sendBrake k).steady = s.steady := by
  simp [P60.sendBrake]

@[simp] theorem steady_dropAuthority (s : P60) (k : SlotId) : (s.dropAuthority k).steady = s.steady := rfl

@[simp] theorem steady_handEoa (s : P60) (k : SlotId) (e : Option Eoa) :
    (s.handEoa k e).steady = s.steady := by
  unfold P60.handEoa
  split <;> simp

@[simp] theorem steady_brakeRequest (s : P60) (k : SlotId) : (s.brakeRequest k).steady = s.steady := by
  unfold P60.brakeRequest
  dsimp only
  split <;> simp

@[simp] theorem steady_reissue (s : P60) (k : SlotId) : (s.reissue k).steady = s.steady := by
  unfold P60.reissue
  split <;> simp

@[simp] theorem steady_formEoa (s : P60) (k : SlotId) : (s.formEoa k).steady = s.steady := by
  unfold P60.formEoa
  split
  · rfl
  · dsimp only
    split <;> simp

@[simp] theorem steady_lowerReach (s : P60) (k : SlotId) (j : Nat) :
    (s.lowerReach k j).steady = s.steady := by simp [P60.lowerReach]

@[simp] theorem steady_passFrom (k : SlotId) (o : Order) (j : Nat) (l : List RouteStep) (s : P60) :
    (P60.passFrom k o j l s).steady = s.steady := by
  induction l generalizing s j with
  | nil => rfl
  | cons st rest ih =>
    unfold P60.passFrom
    have h := steady_attempt s k st
    split
    · rfl
    · split <;> rename_i e <;> rw [e] at h <;> simpa [ih] using h

@[simp] theorem steady_extendRun (s : P60) (k : SlotId) (o : Order) :
    (s.extendRun k o).steady = s.steady := by
  unfold P60.extendRun
  dsimp only
  repeat' split
  all_goals first | rfl | simp

@[simp] theorem steady_stageAfterPass (s : P60) (k : SlotId) (g : Stage) (before : Nat) :
    (s.stageAfterPass k g before).steady = s.steady := by
  unfold P60.stageAfterPass
  dsimp only
  repeat' split
  all_goals simp

@[simp] theorem steady_pass (s : P60) (k : SlotId) : (s.pass k).steady = s.steady := by
  unfold P60.pass
  split <;> simp

@[simp] theorem steady_passEvent (s : P60) (k : SlotId) : (s.passEvent k).steady = s.steady := by
  unfold P60.passEvent
  split <;> simp

@[simp] theorem steady_keepOrReturn (s : P60) (k : SlotId) (n : Nat) :
    (s.keepOrReturn k n).steady = s.steady := by
  unfold P60.keepOrReturn
  repeat' split
  all_goals simp

@[simp] theorem steady_handOver (s : P60) (n : Nat) : (s.handOver n).steady = s.steady := by
  unfold P60.handOver
  repeat' split
  all_goals try simp
  split <;> simp

/-! ## Finishing and suspending -/

@[simp] theorem steady_releaseAheadNow (s : P60) (k : SlotId) : (s.releaseAheadNow k).steady = s.steady := by
  unfold P60.releaseAheadNow
  split <;> simp

@[simp] theorem steady_giveBack (s : P60) (k : SlotId) (kept : List Nat) :
    (s.giveBack k kept).steady = s.steady := by
  unfold P60.giveBack
  simp only [steady_releaseAll]
  rw [steady_foldl _ (by simp)]
  simp

@[simp] theorem steady_returnToIdle (s : P60) (k : SlotId) :
    (s.returnToIdle k).steady = s.steady := by
  simp [P60.returnToIdle]

@[simp] theorem steady_payReturn (s : P60) (k : SlotId) :
    (s.payReturn k).steady = s.steady := by
  unfold P60.payReturn
  split <;> simp

@[simp] theorem steady_suspendNow (s : P60) (k : SlotId) (o : Order) (g : Stage) (c : Cause) :
    (s.suspendNow k o g c).steady = s.steady := by
  unfold P60.suspendNow
  dsimp only
  split <;> simp

@[simp] theorem steady_suspensionCause (s : P60) (k : SlotId) (c : Cause) :
    (s.suspensionCause k c).steady = s.steady := by
  unfold P60.suspensionCause
  repeat' split
  all_goals simp

@[simp] theorem steady_linkLost (s : P60) (k : SlotId) : (s.linkLost k).steady = s.steady := by
  unfold P60.linkLost
  split <;> simp

@[simp] theorem steady_suspendAll (s : P60) (c : Cause) : (s.suspendAll c).steady = s.steady := by
  unfold P60.suspendAll
  exact steady_foldl _ (by simp) _ _

@[simp] theorem steady_listFinish (s : P60) (id : Nat) (st : OrderState) :
    (s.listFinish id st).steady = s.steady := by simp [P60.listFinish]

@[simp] theorem steady_closeProgress (s : P60) (k : SlotId) : (s.closeProgress k).steady = s.steady := by
  simp [P60.closeProgress]

@[simp] theorem steady_emptyAuthority (s : P60) (k : SlotId) : (s.emptyAuthority k).steady = s.steady := by
  unfold P60.emptyAuthority
  split <;> simp

@[simp] theorem steady_endOrder (s : P60) (k : SlotId) (wasActive : Bool) :
    (s.endOrder k wasActive).steady = s.steady := by
  unfold P60.endOrder
  dsimp only
  repeat' split
  all_goals simp

@[simp] theorem steady_finishOrder (s : P60) (o : Order) (st : OrderState) :
    (s.finishOrder o st).steady = s.steady := by
  unfold P60.finishOrder
  split <;> simp

@[simp] theorem steady_finishLive (s : P60) (k : SlotId) (st : OrderState) :
    (s.finishLive k st).steady = s.steady := by
  unfold P60.finishLive
  split <;> simp

@[simp] theorem steady_moveOn (s : P60) (k : SlotId) : (s.moveOn k).steady = s.steady := by
  unfold P60.moveOn
  dsimp only
  split <;> simp

@[simp] theorem steady_overdue (s : P60) (k : SlotId) : (s.overdue k).steady = s.steady := by
  simp [P60.overdue]

/-! ## The scan -/

@[simp] theorem steady_takeStanding (s : P60) (k : SlotId) (o : Order) :
    (s.takeStanding k o).steady = s.steady := by
  unfold P60.takeStanding
  refine steady_foldl _ ?_ _ _
  intro s n
  split <;> simp

@[simp] theorem steady_noteRear (s : P60) (k : SlotId) : (s.noteRear k).steady = s.steady := by
  unfold P60.noteRear
  try dsimp only
  repeat' split
  all_goals first | (simp; done) | with_reducible rfl | (simp; rfl) | rfl

@[simp] theorem steady_firstPass (s : P60) (k : SlotId) : (s.firstPass k).steady = s.steady := by
  unfold P60.firstPass
  split <;> simp

@[simp] theorem steady_dispatch (s : P60) (o : Order) : (s.dispatch o).steady = s.steady := by
  unfold P60.dispatch
  dsimp only
  split <;> simp

@[simp] theorem steady_judgeOrder (s : P60) (id : Nat) : (s.judgeOrder id).steady = s.steady := by
  unfold P60.judgeOrder
  repeat' split
  all_goals simp

@[simp] theorem steady_beginScan (s : P60) : s.beginScan.steady = s.steady := by
  have h := steady_foldl P60.judgeOrder (by simp) (s.orders.map (·.id))
    { s with scanning := true, scanDue := false }
  exact h

@[simp] theorem steady_takeTrigger (s : P60) : s.takeTrigger.steady = s.steady := by
  unfold P60.takeTrigger
  repeat' split
  · rfl
  · simp
  · rfl

/-! ## The end of a command -/

@[simp] theorem steady_drain (n : Nat) (s : P60) : (P60.drain n s).steady = s.steady := by
  induction n generalizing s with
  | zero => rfl
  | succ n ih =>
    unfold P60.drain
    split
    · rfl
    · rw [ih, steady_handOver]
      rfl

@[simp] theorem steady_handOvers (s : P60) : s.handOvers.steady = s.steady := steady_drain _ _

@[simp] theorem steady_pumpSlot (s : P60) (k : SlotId) : (s.pumpSlot k).steady = s.steady := by
  unfold P60.pumpSlot
  repeat' split
  all_goals simp

@[simp] theorem steady_pumpStranger (s : P60) (i : Identity) : (s.pumpStranger i).steady = s.steady := by
  unfold P60.pumpStranger
  repeat' split
  all_goals simp

@[simp] theorem steady_pumpAll (s : P60) : s.pumpAll.steady = s.steady := by
  unfold P60.pumpAll
  rw [steady_foldl _ (by simp), steady_foldl _ (by simp)]

/-- Every command's end leaves the steady part as it was. -/
@[simp] theorem steady_settle (s : P60) : s.settle.steady = s.steady := by simp [P60.settle]

end Sys2Proof.Machine
end

