-- ==== Sys2Proof/Laws/Kept.lean ====
section
/-! SUPPORT. What a command's end leaves of every slot: what the roster, the reports and the hold unit say of
it. -/

namespace Sys2Proof.Machine

/-! ## Base updates -/

theorem kept_updSlot (s : P60) (k : SlotId) (f : Slot → Slot) (h : ∀ x, (f x).kept = x.kept) :
    (s.updSlot k f).slotsKept = s.slotsKept := by
  refine Vector.ext ?_
  intro i hi
  simp only [P60.slotsKept, Vector.getElem_map, P60.updSlot, P60.setSlot, Vector.getElem_set]
  split
  · rename_i e
    subst e
    exact h _
  · rfl

@[simp] theorem kept_updSection (s : P60) (n : Nat) (f : SectionRec → SectionRec) :
    (s.updSection n f).slotsKept = s.slotsKept := rfl

@[simp] theorem kept_setOcc (s : P60) (n : Nat) (o : Occupancy) : (s.setOcc n o).slotsKept = s.slotsKept := rfl

@[simp] theorem kept_updTurnout (s : P60) (t : Nat) (f : TurnoutRec → TurnoutRec) :
    (s.updTurnout t f).slotsKept = s.slotsKept := rfl

@[simp] theorem kept_updOrder (s : P60) (id : Nat) (f : Order → Order) :
    (s.updOrder id f).slotsKept = s.slotsKept := rfl

@[simp] theorem kept_setOrderState (s : P60) (id : Nat) (st : OrderState) :
    (s.setOrderState id st).slotsKept = s.slotsKept := rfl

@[simp] theorem kept_updProgress (s : P60) (k : SlotId) (f : Progress → Progress) :
    (s.updProgress k f).slotsKept = s.slotsKept := by
  exact kept_updSlot _ _ _ (fun _ => rfl)

@[simp] theorem kept_updAuthority (s : P60) (k : SlotId) (f : Authority → Authority) :
    (s.updAuthority k f).slotsKept = s.slotsKept := by
  exact kept_updSlot _ _ _ (fun _ => rfl)

@[simp] theorem kept_updMotion (s : P60) (k : SlotId) (f : Motion → Motion)
    (h : ∀ m, (f m).standing = m.standing ∧ (f m).lastReport = m.lastReport) :
    (s.updMotion k f).slotsKept = s.slotsKept := by
  refine kept_updSlot _ _ _ ?_
  intro x
  simp [Slot.kept, h]

@[simp] theorem kept_updTimer (s : P60) (k : SlotId) (f : PassageTimer → PassageTimer) :
    (s.updTimer k f).slotsKept = s.slotsKept := by
  exact kept_updSlot _ _ _ (fun _ => rfl)

@[simp] theorem kept_updDocking (s : P60) (k : SlotId) (f : Docking → Docking) :
    (s.updDocking k f).slotsKept = s.slotsKept := by
  exact kept_updSlot _ _ _ (fun _ => rfl)

@[simp] theorem kept_updStranger (s : P60) (i : Identity) (f : Stranger → Stranger) :
    (s.updStranger i f).slotsKept = s.slotsKept := rfl

@[simp] theorem kept_dropStranger (s : P60) (i : Identity) : (s.dropStranger i).slotsKept = s.slotsKept := rfl

@[simp] theorem kept_send (s : P60) (f : Frame) : (s.send f).slotsKept = s.slotsKept := rfl

@[simp] theorem kept_raise (s : P60) (e : EventKind) : (s.raise e).slotsKept = s.slotsKept := rfl

@[simp] theorem kept_trigger (s : P60) : s.trigger.slotsKept = s.slotsKept := rfl

@[simp] theorem kept_oweCheck (s : P60) (n : Nat) : (s.oweCheck n).slotsKept = s.slotsKept := rfl

@[simp] theorem kept_syncAttention (s : P60) : s.syncAttention.slotsKept = s.slotsKept := rfl

@[simp] theorem kept_sendOnce (s : P60) (i : Identity) (p : Peer) (m : PeerMsg) :
    (s.sendOnce i p m).slotsKept = s.slotsKept := rfl

theorem kept_foldl {α : Type} (f : P60 → α → P60) (h : ∀ s a, (f s a).slotsKept = s.slotsKept) (l : List α)
    (s : P60) : (l.foldl f s).slotsKept = s.slotsKept := by
  induction l generalizing s with
  | nil => rfl
  | cons a l ih => rw [List.foldl_cons, ih, h]

/-! ## Links -/

@[simp] theorem kept_hand (s : P60) (k : SlotId) (place : PlaceName) (m : PeerMsg) :
    (s.hand k place m).slotsKept = s.slotsKept := by
  unfold P60.hand
  repeat' split
  all_goals first
    | rfl
    | exact Eq.trans (kept_updSlot _ _ _ (by intro; rfl)) (by simp)

@[simp] theorem kept_command (s : P60) (a : Nat) (m : FieldMsg) : (s.command a m).slotsKept = s.slotsKept := by
  unfold P60.command
  repeat' split
  all_goals rfl

@[simp] theorem kept_commandTo (s : P60) (kind : UnitKind) (n : Nat) (m : FieldMsg) :
    (s.commandTo kind n m).slotsKept = s.slotsKept := by
  unfold P60.commandTo
  split <;> simp

/-! ## Throws -/

@[simp] theorem kept_beginThrow (s : P60) (t : Nat) (x : Leg) (sl : ThrowSlot) :
    (s.beginThrow t x sl).slotsKept = s.slotsKept := by simp [P60.beginThrow]

@[simp] theorem kept_arbiterFrom (q : List (Nat × Leg)) (s : P60) :
    (P60.arbiterFrom q s).slotsKept = s.slotsKept := by
  induction q generalizing s with
  | nil => rfl
  | cons e q ih =>
    unfold P60.arbiterFrom
    repeat' split
    all_goals first | rfl | simp [ih]

@[simp] theorem kept_arbiter (s : P60) : s.arbiter.slotsKept = s.slotsKept := by simp [P60.arbiter]

@[simp] theorem kept_throwRequest (s : P60) (t : Nat) (x : Leg) :
    (s.throwRequest t x).1.slotsKept = s.slotsKept := by
  unfold P60.throwRequest
  repeat' split
  all_goals first | rfl | (simp; rfl)

/-! ## Waits -/

@[simp] theorem kept_searchDeadlock (s : P60) (k : SlotId) : (s.searchDeadlock k).slotsKept = s.slotsKept := by
  unfold P60.searchDeadlock
  split
  · rfl
  · simp; rfl

@[simp] theorem kept_beginWait (s : P60) (k : SlotId) (n : Nat) (on : WaitOn) :
    (s.beginWait k n on).slotsKept = s.slotsKept := by
  unfold P60.beginWait
  cases on <;> simp

@[simp] theorem kept_recordWait (s : P60) (k : SlotId) (n : Nat) (on : WaitOn) :
    (s.recordWait k n on).slotsKept = s.slotsKept := by
  unfold P60.recordWait
  repeat' split
  all_goals simp

@[simp] theorem kept_leaveQueue (s : P60) (k : SlotId) (n : Nat) :
    (s.leaveQueue k n).slotsKept = s.slotsKept := by
  unfold P60.leaveQueue
  repeat' (first | split | simp)

@[simp] theorem kept_joinQueue (s : P60) (k : SlotId) (n : Nat) :
    (s.joinQueue k n).slotsKept = s.slotsKept := by
  unfold P60.joinQueue
  repeat' split
  all_goals simp

@[simp] theorem kept_withdrawWait (s : P60) (k : SlotId) : (s.withdrawWait k).slotsKept = s.slotsKept := by
  unfold P60.withdrawWait
  simp only [kept_updProgress]
  split <;> simp

@[simp] theorem kept_reviseWaits (s : P60) (n : Nat) (on : WaitOn) :
    (s.reviseWaits n on).slotsKept = s.slotsKept := by
  unfold P60.reviseWaits
  split
  · rfl
  · exact kept_foldl _ (by simp) _ _

/-! ## Reservation -/

@[simp] theorem kept_grant (s : P60) (k : SlotId) (n : Nat) (entry : Side) (x : Option Leg) :
    (s.grant k n entry x).slotsKept = s.slotsKept := by simp [P60.grant]

@[simp] theorem kept_askThrow (s : P60) (n : Nat) (x : Option Leg) :
    (s.askThrow n x).slotsKept = s.slotsKept := by
  unfold P60.askThrow
  split <;> simp

@[simp] theorem kept_attempt (s : P60) (k : SlotId) (st : RouteStep) :
    (s.attempt k st).1.slotsKept = s.slotsKept := by
  unfold P60.attempt
  repeat' split
  all_goals simp
  split <;> simp

@[simp] theorem kept_releaseNow (s : P60) (n : Nat) : (s.releaseNow n).slotsKept = s.slotsKept := by
  simp [P60.releaseNow]

@[simp] theorem kept_releaseRequest (s : P60) (n : Nat) (o : Owner) :
    (s.releaseRequest n o).slotsKept = s.slotsKept := by
  unfold P60.releaseRequest
  repeat' split
  all_goals simp

@[simp] theorem kept_releaseAll (s : P60) (l : List Nat) (o : Owner) :
    (s.releaseAll l o).slotsKept = s.slotsKept := by
  unfold P60.releaseAll
  exact kept_foldl _ (by simp) _ _

/-! ## Stages and timers -/

@[simp] theorem kept_judgeTimer (s : P60) (k : SlotId) : (s.judgeTimer k).slotsKept = s.slotsKept := by
  unfold P60.judgeTimer
  split <;> simp

@[simp] theorem kept_loadTimer (s : P60) (k : SlotId) (o : Order) (j : Nat) :
    (s.loadTimer k o j).slotsKept = s.slotsKept := by
  unfold P60.loadTimer
  split <;> simp

@[simp] theorem kept_stopTimerSuspended (s : P60) (k : SlotId) :
    (s.stopTimerSuspended k).slotsKept = s.slotsKept := kept_updTimer _ _ _

@[simp] theorem kept_stopTimerFinished (s : P60) (k : SlotId) :
    (s.stopTimerFinished k).slotsKept = s.slotsKept := kept_updTimer _ _ _

@[simp] theorem kept_setStatus (s : P60) (k : SlotId) (st : SlotState) :
    (s.setStatus k st).slotsKept = s.slotsKept :=
  kept_updSlot _ _ _ (fun x => by split <;> rfl)

@[simp] theorem kept_becomeIdle (s : P60) (k : SlotId) : (s.becomeIdle k).slotsKept = s.slotsKept := by
  unfold P60.becomeIdle
  dsimp only
  split <;> simp

@[simp] theorem kept_setStage (s : P60) (k : SlotId) (g : Stage) (stop : Option Cause) :
    (s.setStage k g stop).slotsKept = s.slotsKept := by
  unfold P60.setStage
  split
  · rfl
  · rw [kept_judgeTimer]
    refine Eq.trans (kept_updSlot _ _ _ ?_) ?_
    · intro x
      split <;> rfl
    · split <;> simp

/-! ## Authority and the route setter -/

@[simp] theorem kept_sendAuthority (s : P60) (k : SlotId) (e : Eoa) :
    (s.sendAuthority k e).slotsKept = s.slotsKept := by simp [P60.sendAuthority]

@[simp] theorem kept_sendBrake (s : P60) (k : SlotId) : (s.sendBrake k).slotsKept = s.slotsKept := by
  simp [P60.sendBrake]

@[simp] theorem kept_dropAuthority (s : P60) (k : SlotId) : (s.dropAuthority k).slotsKept = s.slotsKept :=
  kept_updAuthority _ _ _

@[simp] theorem kept_handEoa (s : P60) (k : SlotId) (e : Option Eoa) :
    (s.handEoa k e).slotsKept = s.slotsKept := by
  unfold P60.handEoa
  split <;> simp

@[simp] theorem kept_brakeRequest (s : P60) (k : SlotId) : (s.brakeRequest k).slotsKept = s.slotsKept := by
  unfold P60.brakeRequest
  dsimp only
  split <;> simp

@[simp] theorem kept_reissue (s : P60) (k : SlotId) : (s.reissue k).slotsKept = s.slotsKept := by
  unfold P60.reissue
  split <;> simp

@[simp] theorem kept_formEoa (s : P60) (k : SlotId) : (s.formEoa k).slotsKept = s.slotsKept := by
  unfold P60.formEoa
  split
  · rfl
  · dsimp only
    split <;> simp

@[simp] theorem kept_lowerReach (s : P60) (k : SlotId) (j : Nat) :
    (s.lowerReach k j).slotsKept = s.slotsKept := by simp [P60.lowerReach]

@[simp] theorem kept_passFrom (k : SlotId) (o : Order) (j : Nat) (l : List RouteStep) (s : P60) :
    (P60.passFrom k o j l s).slotsKept = s.slotsKept := by
  induction l generalizing s j with
  | nil => rfl
  | cons st rest ih =>
    unfold P60.passFrom
    have h := kept_attempt s k st
    split
    · rfl
    · split <;> rename_i e <;> rw [e] at h <;> simpa [ih] using h

@[simp] theorem kept_extendRun (s : P60) (k : SlotId) (o : Order) :
    (s.extendRun k o).slotsKept = s.slotsKept := by
  unfold P60.extendRun
  dsimp only
  repeat' split
  all_goals first | rfl | simp

@[simp] theorem kept_stageAfterPass (s : P60) (k : SlotId) (g : Stage) (before : Nat) :
    (s.stageAfterPass k g before).slotsKept = s.slotsKept := by
  unfold P60.stageAfterPass
  dsimp only
  repeat' split
  all_goals simp

@[simp] theorem kept_pass (s : P60) (k : SlotId) : (s.pass k).slotsKept = s.slotsKept := by
  unfold P60.pass
  split <;> simp

@[simp] theorem kept_passEvent (s : P60) (k : SlotId) : (s.passEvent k).slotsKept = s.slotsKept := by
  unfold P60.passEvent
  split <;> simp

@[simp] theorem kept_keepOrReturn (s : P60) (k : SlotId) (n : Nat) :
    (s.keepOrReturn k n).slotsKept = s.slotsKept := by
  unfold P60.keepOrReturn
  repeat' split
  all_goals simp

@[simp] theorem kept_handOver (s : P60) (n : Nat) : (s.handOver n).slotsKept = s.slotsKept := by
  unfold P60.handOver
  repeat' split
  all_goals try simp
  split <;> simp

/-! ## Finishing and suspending -/

@[simp] theorem kept_releaseAheadNow (s : P60) (k : SlotId) : (s.releaseAheadNow k).slotsKept = s.slotsKept := by
  unfold P60.releaseAheadNow
  split <;> simp

@[simp] theorem kept_giveBack (s : P60) (k : SlotId) (kept : List Nat) :
    (s.giveBack k kept).slotsKept = s.slotsKept := by
  unfold P60.giveBack
  simp only [kept_releaseAll]
  rw [kept_foldl _ (by simp)]
  simp

@[simp] theorem kept_returnToIdle (s : P60) (k : SlotId) :
    (s.returnToIdle k).slotsKept = s.slotsKept := by
  simp [P60.returnToIdle]

@[simp] theorem kept_payReturn (s : P60) (k : SlotId) :
    (s.payReturn k).slotsKept = s.slotsKept := by
  unfold P60.payReturn
  split <;> simp

@[simp] theorem kept_suspendNow (s : P60) (k : SlotId) (o : Order) (g : Stage) (c : Cause) :
    (s.suspendNow k o g c).slotsKept = s.slotsKept := by
  unfold P60.suspendNow
  dsimp only
  split <;> simp

@[simp] theorem kept_suspensionCause (s : P60) (k : SlotId) (c : Cause) :
    (s.suspensionCause k c).slotsKept = s.slotsKept := by
  unfold P60.suspensionCause
  repeat' split
  all_goals simp

@[simp] theorem kept_linkLost (s : P60) (k : SlotId) : (s.linkLost k).slotsKept = s.slotsKept := by
  unfold P60.linkLost
  split <;> simp

@[simp] theorem kept_suspendAll (s : P60) (c : Cause) : (s.suspendAll c).slotsKept = s.slotsKept := by
  unfold P60.suspendAll
  exact kept_foldl _ (by simp) _ _

@[simp] theorem kept_listFinish (s : P60) (id : Nat) (st : OrderState) :
    (s.listFinish id st).slotsKept = s.slotsKept := by simp [P60.listFinish]

@[simp] theorem kept_closeProgress (s : P60) (k : SlotId) : (s.closeProgress k).slotsKept = s.slotsKept := by
  simp [P60.closeProgress]

@[simp] theorem kept_emptyAuthority (s : P60) (k : SlotId) : (s.emptyAuthority k).slotsKept = s.slotsKept := by
  unfold P60.emptyAuthority
  split <;> simp

@[simp] theorem kept_endOrder (s : P60) (k : SlotId) (wasActive : Bool) :
    (s.endOrder k wasActive).slotsKept = s.slotsKept := by
  unfold P60.endOrder
  dsimp only
  repeat' split
  all_goals simp

@[simp] theorem kept_finishOrder (s : P60) (o : Order) (st : OrderState) :
    (s.finishOrder o st).slotsKept = s.slotsKept := by
  unfold P60.finishOrder
  split <;> simp

@[simp] theorem kept_finishLive (s : P60) (k : SlotId) (st : OrderState) :
    (s.finishLive k st).slotsKept = s.slotsKept := by
  unfold P60.finishLive
  split <;> simp

@[simp] theorem kept_moveOn (s : P60) (k : SlotId) : (s.moveOn k).slotsKept = s.slotsKept := by
  unfold P60.moveOn
  dsimp only
  split <;> simp

@[simp] theorem kept_overdue (s : P60) (k : SlotId) : (s.overdue k).slotsKept = s.slotsKept := by
  simp [P60.overdue]

/-! ## The scan -/

@[simp] theorem kept_takeStanding (s : P60) (k : SlotId) (o : Order) :
    (s.takeStanding k o).slotsKept = s.slotsKept := by
  unfold P60.takeStanding
  refine kept_foldl _ ?_ _ _
  intro s n
  split <;> simp

@[simp] theorem kept_noteRear (s : P60) (k : SlotId) : (s.noteRear k).slotsKept = s.slotsKept := by
  unfold P60.noteRear
  try dsimp only
  repeat' split
  all_goals first | (simp; done) | with_reducible rfl | (simp; rfl) | rfl

@[simp] theorem kept_firstPass (s : P60) (k : SlotId) : (s.firstPass k).slotsKept = s.slotsKept := by
  unfold P60.firstPass
  split <;> simp

@[simp] theorem kept_dispatch (s : P60) (o : Order) : (s.dispatch o).slotsKept = s.slotsKept := by
  unfold P60.dispatch
  dsimp only
  split <;> simp

@[simp] theorem kept_judgeOrder (s : P60) (id : Nat) : (s.judgeOrder id).slotsKept = s.slotsKept := by
  unfold P60.judgeOrder
  repeat' split
  all_goals simp

@[simp] theorem kept_beginScan (s : P60) : s.beginScan.slotsKept = s.slotsKept := by
  have h := kept_foldl P60.judgeOrder (by simp) (s.orders.map (·.id))
    { s with scanning := true, scanDue := false }
  exact h

@[simp] theorem kept_takeTrigger (s : P60) : s.takeTrigger.slotsKept = s.slotsKept := by
  unfold P60.takeTrigger
  repeat' split
  · rfl
  · simp
  · rfl

/-! ## The end of a command -/

@[simp] theorem kept_drain (n : Nat) (s : P60) : (P60.drain n s).slotsKept = s.slotsKept := by
  induction n generalizing s with
  | zero => rfl
  | succ n ih =>
    unfold P60.drain
    split
    · rfl
    · rw [ih, kept_handOver]
      rfl

@[simp] theorem kept_handOvers (s : P60) : s.handOvers.slotsKept = s.slotsKept := kept_drain _ _

@[simp] theorem kept_pumpSlot (s : P60) (k : SlotId) : (s.pumpSlot k).slotsKept = s.slotsKept := by
  unfold P60.pumpSlot
  split
  · split
    · rfl
    · refine Eq.trans (kept_updSlot _ _ _ ?_) rfl
      intro x
      rfl
  · rfl

@[simp] theorem kept_pumpStranger (s : P60) (i : Identity) : (s.pumpStranger i).slotsKept = s.slotsKept := by
  unfold P60.pumpStranger
  repeat' split
  all_goals simp

@[simp] theorem kept_pumpAll (s : P60) : s.pumpAll.slotsKept = s.slotsKept := by
  unfold P60.pumpAll
  rw [kept_foldl _ (by simp), kept_foldl _ (by simp)]

/-- Every command's end leaves what is kept of every slot as it was. -/
@[simp] theorem kept_settle (s : P60) : s.settle.slotsKept = s.slotsKept := by simp [P60.settle]

end Sys2Proof.Machine
end

