-- ==== Sys2Proof/Laws/Orders.lean ====
section
/-! SUPPORT. The order list, through the operations that leave it as it was. -/

namespace Sys2Proof.Machine

theorem orders_foldl {α : Type} (f : P60 → α → P60) (h : ∀ s a, (f s a).orders = s.orders) (l : List α)
    (s : P60) : (l.foldl f s).orders = s.orders := by
  induction l generalizing s with
  | nil => rfl
  | cons a l ih => rw [List.foldl_cons, ih, h]

/-! ## State -/

/-! ## Ops -/

@[simp] theorem orders_setSlot (s : P60) (k : SlotId) (x : Slot) : (s.setSlot k x).orders = s.orders := rfl

@[simp] theorem orders_updSlot (s : P60) (k : SlotId) (f : Slot → Slot) :
    (s.updSlot k f).orders = s.orders := rfl

@[simp] theorem orders_updProgress (s : P60) (k : SlotId) (f : Progress → Progress) :
    (s.updProgress k f).orders = s.orders := rfl

@[simp] theorem orders_updAuthority (s : P60) (k : SlotId) (f : Authority → Authority) :
    (s.updAuthority k f).orders = s.orders := rfl

@[simp] theorem orders_updMotion (s : P60) (k : SlotId) (f : Motion → Motion) :
    (s.updMotion k f).orders = s.orders := rfl

@[simp] theorem orders_updTimer (s : P60) (k : SlotId) (f : PassageTimer → PassageTimer) :
    (s.updTimer k f).orders = s.orders := rfl

@[simp] theorem orders_updDocking (s : P60) (k : SlotId) (f : Docking → Docking) :
    (s.updDocking k f).orders = s.orders := rfl

@[simp] theorem orders_setLocation (s : P60) (t : Nat) (l : Location) :
    (s.setLocation t l).orders = s.orders := rfl

@[simp] theorem orders_updSection (s : P60) (n : Nat) (f : SectionRec → SectionRec) :
    (s.updSection n f).orders = s.orders := rfl

@[simp] theorem orders_setOcc (s : P60) (n : Nat) (o : Occupancy) : (s.setOcc n o).orders = s.orders := rfl

@[simp] theorem orders_updTurnout (s : P60) (t : Nat) (f : TurnoutRec → TurnoutRec) :
    (s.updTurnout t f).orders = s.orders := rfl

@[simp] theorem orders_raise (s : P60) (e : EventKind) : (s.raise e).orders = s.orders := rfl

@[simp] theorem orders_trigger (s : P60) : s.trigger.orders = s.orders := rfl

@[simp] theorem orders_oweCheck (s : P60) (n : Nat) : (s.oweCheck n).orders = s.orders := rfl

@[simp] theorem orders_send (s : P60) (f : Frame) : (s.send f).orders = s.orders := rfl

@[simp] theorem orders_sendOnce (s : P60) (i : Identity) (p : Peer) (m : PeerMsg) :
    (s.sendOnce i p m).orders = s.orders := rfl

@[simp] theorem orders_hand (s : P60) (k : SlotId) (place : PlaceName) (m : PeerMsg) :
    (s.hand k place m).orders = s.orders := by
  unfold P60.hand
  (repeat' split) <;> simp

@[simp] theorem orders_updUnit (s : P60) (a : Nat) (f : FieldUnit → FieldUnit) :
    (s.updUnit a f).orders = s.orders := rfl

@[simp] theorem orders_command (s : P60) (a : Nat) (m : FieldMsg) : (s.command a m).orders = s.orders := by
  unfold P60.command
  (repeat' split) <;> simp

@[simp] theorem orders_commandTo (s : P60) (kind : UnitKind) (n : Nat) (m : FieldMsg) :
    (s.commandTo kind n m).orders = s.orders := by
  unfold P60.commandTo
  (repeat' split) <;> simp

/-! ## Flags -/

@[simp] theorem orders_syncAttention (s : P60) : s.syncAttention.orders = s.orders := rfl

@[simp] theorem orders_setDiscrepancy (s : P60) (n : Nat) : (s.setDiscrepancy n).orders = s.orders := by
  unfold P60.setDiscrepancy
  (repeat' split) <;> simp

@[simp] theorem orders_setFault (s : P60) (k : SlotId) (c : FaultCause) :
    (s.setFault k c).orders = s.orders := rfl

@[simp] theorem orders_joinChangeSet (s : P60) (k : SlotId) : (s.joinChangeSet k).orders = s.orders := by
  unfold P60.joinChangeSet
  (repeat' split) <;> simp

/-! ## Throws -/

@[simp] theorem orders_beginThrow (s : P60) (t : Nat) (x : Leg) (sl : ThrowSlot) :
    (s.beginThrow t x sl).orders = s.orders := by
  unfold P60.beginThrow
  (repeat' split) <;> simp

/-! ## Waits -/

@[simp] theorem orders_searchDeadlock (s : P60) (k : SlotId) : (s.searchDeadlock k).orders = s.orders := by
  unfold P60.searchDeadlock
  (repeat' split) <;> simp

@[simp] theorem orders_beginWait (s : P60) (k : SlotId) (n : Nat) (on : WaitOn) :
    (s.beginWait k n on).orders = s.orders := by
  unfold P60.beginWait
  (repeat' split) <;> simp

@[simp] theorem orders_recordWait (s : P60) (k : SlotId) (n : Nat) (on : WaitOn) :
    (s.recordWait k n on).orders = s.orders := by
  unfold P60.recordWait
  (repeat' split) <;> simp

@[simp] theorem orders_leaveQueue (s : P60) (k : SlotId) (n : Nat) : (s.leaveQueue k n).orders = s.orders := by
  unfold P60.leaveQueue
  (repeat' split) <;> simp

@[simp] theorem orders_joinQueue (s : P60) (k : SlotId) (n : Nat) : (s.joinQueue k n).orders = s.orders := by
  unfold P60.joinQueue
  (repeat' split) <;> simp

@[simp] theorem orders_withdrawWait (s : P60) (k : SlotId) : (s.withdrawWait k).orders = s.orders := by
  unfold P60.withdrawWait
  (repeat' split) <;> simp

@[simp] theorem orders_reviseWaits (s : P60) (n : Nat) (on : WaitOn) :
    (s.reviseWaits n on).orders = s.orders := by
  unfold P60.reviseWaits
  try dsimp only
  repeat' split
  all_goals first | with_reducible rfl | (simp; done) | (refine orders_foldl _ (fun s a => ?_) _ _; (repeat' split) <;> simp; done) |
    (refine Eq.trans (orders_foldl _ (fun s a => ?_) _ _) ?_ <;> (repeat' split) <;> simp; done)

/-! ## Reservation -/

@[simp] theorem orders_grant (s : P60) (k : SlotId) (n : Nat) (entry : Side) (x : Option Leg) :
    (s.grant k n entry x).orders = s.orders := by
  unfold P60.grant
  (repeat' split) <;> simp

@[simp] theorem orders_arbiterFrom (q : List (Nat × Leg)) (s : P60) :
    (P60.arbiterFrom q s).orders = s.orders := by
  induction q generalizing s with
  | nil => rfl
  | cons a q ih =>
    obtain ⟨t, x⟩ := a
    unfold P60.arbiterFrom
    repeat' split
    all_goals first | rfl | (simp [ih]; done)

@[simp] theorem orders_arbiter (s : P60) : s.arbiter.orders = s.orders := orders_arbiterFrom _ _

@[simp] theorem orders_throwRequest (s : P60) (t : Nat) (x : Leg) :
    (s.throwRequest t x).1.orders = s.orders := by
  unfold P60.throwRequest
  repeat' split
  all_goals first | rfl | exact orders_arbiter _

@[simp] theorem orders_askThrow (s : P60) (n : Nat) (x : Option Leg) : (s.askThrow n x).orders = s.orders := by
  unfold P60.askThrow
  (repeat' split) <;> simp

@[simp] theorem orders_releaseNow (s : P60) (n : Nat) : (s.releaseNow n).orders = s.orders := by
  unfold P60.releaseNow
  (repeat' split) <;> simp

@[simp] theorem orders_releaseRequest (s : P60) (n : Nat) (o : Owner) :
    (s.releaseRequest n o).orders = s.orders := by
  unfold P60.releaseRequest
  (repeat' split) <;> simp

@[simp] theorem orders_releaseAll (s : P60) (l : List Nat) (o : Owner) :
    (s.releaseAll l o).orders = s.orders := by
  unfold P60.releaseAll
  try dsimp only
  repeat' split
  all_goals first | with_reducible rfl | (simp; done) | (refine orders_foldl _ (fun s a => ?_) _ _; (repeat' split) <;> simp; done) |
    (refine Eq.trans (orders_foldl _ (fun s a => ?_) _ _) ?_ <;> (repeat' split) <;> simp; done)

@[simp] theorem orders_disturb (s : P60) (n : Nat) : (s.disturb n).orders = s.orders := rfl

@[simp] theorem orders_disturbOwned (s : P60) (n : Nat) : (s.disturbOwned n).orders = s.orders := by
  unfold P60.disturbOwned
  (repeat' split) <;> simp

@[simp] theorem orders_becomeFree (s : P60) (n : Nat) : (s.becomeFree n).orders = s.orders := by
  unfold P60.becomeFree
  try dsimp only
  repeat' split
  all_goals first | (simp; done) | rfl

@[simp] theorem orders_oweFeederChecks (s : P60) (f : FeederId) : (s.oweFeederChecks f).orders = s.orders := by
  unfold P60.oweFeederChecks
  try dsimp only
  repeat' split
  all_goals first | with_reducible rfl | (simp; done) | (refine orders_foldl _ (fun s a => ?_) _ _; (repeat' split) <;> simp; done) |
    (refine Eq.trans (orders_foldl _ (fun s a => ?_) _ _) ?_ <;> (repeat' split) <;> simp; done)

@[simp] theorem orders_detection (s : P60) (n : Nat) : (s.detection n).orders = s.orders := by
  unfold P60.detection
  (repeat' split) <;> simp

@[simp] theorem orders_detect (s : P60) (r : TurnoutRec) (x : Leg) : (s.detect r x).orders = s.orders := by
  unfold P60.detect
  (repeat' split) <;> simp

@[simp] theorem orders_adoptOne (s : P60) (k : SlotId) (n : Nat) : (s.adoptOne k n).orders = s.orders := by
  unfold P60.adoptOne
  (repeat' split) <;> simp

/-! ## Stages -/

@[simp] theorem orders_judgeTimer (s : P60) (k : SlotId) : (s.judgeTimer k).orders = s.orders := by
  unfold P60.judgeTimer
  (repeat' split) <;> simp

@[simp] theorem orders_loadTimer (s : P60) (k : SlotId) (o : Order) (j : Nat) :
    (s.loadTimer k o j).orders = s.orders := by
  unfold P60.loadTimer
  (repeat' split) <;> simp

@[simp] theorem orders_stopTimerSuspended (s : P60) (k : SlotId) :
    (s.stopTimerSuspended k).orders = s.orders := rfl

@[simp] theorem orders_stopTimerFinished (s : P60) (k : SlotId) :
    (s.stopTimerFinished k).orders = s.orders := rfl

@[simp] theorem orders_setStatus (s : P60) (k : SlotId) (st : SlotState) :
    (s.setStatus k st).orders = s.orders := rfl

@[simp] theorem orders_becomeIdle (s : P60) (k : SlotId) : (s.becomeIdle k).orders = s.orders := by
  unfold P60.becomeIdle
  try dsimp only
  repeat' split
  all_goals first | (simp; done) | rfl

/-! ## Braking -/

@[simp] theorem orders_sendAuthority (s : P60) (k : SlotId) (e : Eoa) :
    (s.sendAuthority k e).orders = s.orders := by
  unfold P60.sendAuthority
  (repeat' split) <;> simp

@[simp] theorem orders_sendBrake (s : P60) (k : SlotId) : (s.sendBrake k).orders = s.orders := by
  unfold P60.sendBrake
  (repeat' split) <;> simp

@[simp] theorem orders_dropAuthority (s : P60) (k : SlotId) : (s.dropAuthority k).orders = s.orders := rfl

@[simp] theorem orders_handEoa (s : P60) (k : SlotId) (e : Option Eoa) : (s.handEoa k e).orders = s.orders := by
  unfold P60.handEoa
  (repeat' split) <;> simp

@[simp] theorem orders_allStopRequest (s : P60) : s.allStopRequest.orders = s.orders := rfl

@[simp] theorem orders_reissue (s : P60) (k : SlotId) : (s.reissue k).orders = s.orders := by
  unfold P60.reissue
  (repeat' split) <;> simp

@[simp] theorem orders_updateCeiling (s : P60) (k : SlotId) : (s.updateCeiling k).orders = s.orders := by
  unfold P60.updateCeiling
  (repeat' split) <;> simp

@[simp] theorem orders_unauthorised (s : P60) (k : SlotId) (rep : PositionReport) :
    (s.unauthorised k rep).orders = s.orders := by
  unfold P60.unauthorised
  try dsimp only
  repeat' split
  all_goals first | (simp; done) | rfl

@[simp] theorem orders_cutBack (s : P60) (k : SlotId) : (s.cutBack k).orders = s.orders := by
  unfold P60.cutBack
  try dsimp only
  repeat' split
  all_goals first | (simp; done) | rfl

/-! ## RouteSetter -/

@[simp] theorem orders_formEoa (s : P60) (k : SlotId) : (s.formEoa k).orders = s.orders := by
  unfold P60.formEoa
  try dsimp only
  repeat' split
  all_goals first | (simp; done) | rfl

@[simp] theorem orders_lowerReach (s : P60) (k : SlotId) (j : Nat) : (s.lowerReach k j).orders = s.orders := by
  unfold P60.lowerReach
  (repeat' split) <;> simp

@[simp] theorem orders_loseFromRun (s : P60) (k : SlotId) (n : Nat) :
    (s.loseFromRun k n).orders = s.orders := by
  unfold P60.loseFromRun
  try dsimp only
  repeat' split
  all_goals first | (simp; done) | rfl

@[simp] theorem orders_noteRear (s : P60) (k : SlotId) : (s.noteRear k).orders = s.orders := by
  unfold P60.noteRear
  try dsimp only
  repeat' split
  all_goals first | (simp; done) | rfl

@[simp] theorem orders_capture (s : P60) (k : SlotId) (o : Order) (j : Nat) :
    (s.capture k o j).orders = s.orders := by
  unfold P60.capture
  try dsimp only
  repeat' split
  all_goals first | (simp; done) | rfl

@[simp] theorem orders_keepOrReturn (s : P60) (k : SlotId) (n : Nat) :
    (s.keepOrReturn k n).orders = s.orders := by
  unfold P60.keepOrReturn
  (repeat' split) <;> simp

/-! ## Movement -/

@[simp] theorem orders_releaseAheadNow (s : P60) (k : SlotId) : (s.releaseAheadNow k).orders = s.orders := by
  unfold P60.releaseAheadNow
  (repeat' split) <;> simp

@[simp] theorem orders_giveBack (s : P60) (k : SlotId) (kept : List Nat) :
    (s.giveBack k kept).orders = s.orders := by
  unfold P60.giveBack
  dsimp only
  rw [orders_releaseAll, orders_foldl]
  · simp
  · simp

@[simp] theorem orders_returnToIdle (s : P60) (k : SlotId) :
    (s.returnToIdle k).orders = s.orders := by
  simp [P60.returnToIdle]

@[simp] theorem orders_payReturn (s : P60) (k : SlotId) :
    (s.payReturn k).orders = s.orders := by
  unfold P60.payReturn
  split <;> simp

@[simp] theorem orders_closeProgress (s : P60) (k : SlotId) : (s.closeProgress k).orders = s.orders := by
  unfold P60.closeProgress
  (repeat' split) <;> simp

@[simp] theorem orders_emptyAuthority (s : P60) (k : SlotId) : (s.emptyAuthority k).orders = s.orders := by
  unfold P60.emptyAuthority
  (repeat' split) <;> simp

@[simp] theorem orders_endOrder (s : P60) (k : SlotId) (wasActive : Bool) :
    (s.endOrder k wasActive).orders = s.orders := by
  unfold P60.endOrder
  try dsimp only
  repeat' split
  all_goals first | (simp; done) | rfl

/-! ## Docking -/

@[simp] theorem orders_await (s : P60) (k : SlotId) (a : Awaiting) (limit : Nat) :
    (s.await k a limit).orders = s.orders := rfl

@[simp] theorem orders_updPad (s : P60) (n : Nat) (f : PadRec → PadRec) : (s.updPad n f).orders = s.orders := rfl

@[simp] theorem orders_endStage (s : P60) (k : SlotId) : (s.endStage k).orders = s.orders := rfl

@[simp] theorem orders_clampSilent (s : P60) (n : Nat) : (s.clampSilent n).orders = s.orders := rfl

@[simp] theorem orders_setLoad (s : P60) (k : SlotId) (present : Bool) :
    (s.setLoad k present).orders = s.orders := rfl

@[simp] theorem orders_unawaited (s : P60) (k : SlotId) (present : Bool) :
    (s.unawaited k present).orders = s.orders := by
  unfold P60.unawaited
  try dsimp only
  repeat' split
  all_goals first | (simp; done) | rfl

@[simp] theorem orders_liftedReport (s : P60) (k : SlotId) : (s.liftedReport k).orders = s.orders := by
  unfold P60.liftedReport
  (repeat' split) <;> simp

@[simp] theorem orders_loweredReport (s : P60) (k : SlotId) : (s.loweredReport k).orders = s.orders := by
  unfold P60.loweredReport
  (repeat' split) <;> simp

/-! ## Holds -/

@[simp] theorem orders_updFeeder (s : P60) (f : FeederId) (g : Feeder → Feeder) :
    (s.updFeeder f g).orders = s.orders := rfl

@[simp] theorem orders_setFeederState (s : P60) (f : FeederId) (st : FeederState) :
    (s.setFeederState f st).orders = s.orders := rfl

@[simp] theorem orders_countTrip (s : P60) (f : FeederId) : (s.countTrip f).orders = s.orders := rfl

@[simp] theorem orders_overcurrentGone (s : P60) (f : FeederId) : (s.overcurrentGone f).orders = s.orders := by
  unfold P60.overcurrentGone
  try dsimp only
  repeat' split
  all_goals first | (simp; done) | rfl

@[simp] theorem orders_leaveEstop (s : P60) : s.leaveEstop.orders = s.orders := by
  unfold P60.leaveEstop
  try dsimp only
  repeat' split
  all_goals first | with_reducible rfl | (simp; done) | (refine orders_foldl _ (fun s a => ?_) _ _; (repeat' split) <;> simp; done) |
    (refine Eq.trans (orders_foldl _ (fun s a => ?_) _ _) ?_ <;> (repeat' split) <;> simp; done)

/-! ## Roster -/

@[simp] theorem orders_reconcileLoad (s : P60) (k : SlotId) : (s.reconcileLoad k).orders = s.orders := by
  unfold P60.reconcileLoad
  (repeat' split) <;> simp

@[simp] theorem orders_placeBind (s : P60) (k : SlotId) : (s.placeBind k).orders = s.orders := rfl

@[simp] theorem orders_loseSlot (s : P60) (k : SlotId) : (s.loseSlot k).orders = s.orders := by
  unfold P60.loseSlot
  (repeat' split) <;> simp

@[simp] theorem orders_leaveHeldSets (s : P60) (k : SlotId) : (s.leaveHeldSets k).orders = s.orders := rfl

@[simp] theorem orders_updStranger (s : P60) (i : Identity) (f : Stranger → Stranger) :
    (s.updStranger i f).orders = s.orders := rfl

@[simp] theorem orders_dropStranger (s : P60) (i : Identity) : (s.dropStranger i).orders = s.orders := rfl

@[simp] theorem orders_addStranger (s : P60) (a : Announcement) (why : StrangerReason) :
    (s.addStranger a why).orders = s.orders := by
  unfold P60.addStranger
  (repeat' split) <;> simp

/-! ## Dispatcher -/

@[simp] theorem orders_endScan (s : P60) : s.endScan.orders = s.orders := by
  unfold P60.endScan
  (repeat' split) <;> simp

/-! ## Links -/

@[simp] theorem orders_pumpSlot (s : P60) (k : SlotId) : (s.pumpSlot k).orders = s.orders := by
  unfold P60.pumpSlot
  (repeat' split) <;> simp

@[simp] theorem orders_pumpStranger (s : P60) (i : Identity) : (s.pumpStranger i).orders = s.orders := by
  unfold P60.pumpStranger
  (repeat' split) <;> simp

/-! ## Clock -/

@[simp] theorem orders_advance (s : P60) (n : Nat) : (s.advance n).orders = s.orders := rfl

@[simp] theorem orders_quiet (s : P60) : s.quiet.orders = s.orders := rfl

/-! ## Requests -/

@[simp] theorem orders_answer (s : P60) (r : Request) (a : Answer) : (s.answer r a).orders = s.orders := rfl

@[simp] theorem orders_arrival (s : P60) (r : Request) : (s.arrival r).orders = s.orders := by
  unfold P60.arrival
  (repeat' split) <;> simp

/-! ## PlanStore -/

@[simp] theorem orders_activate (s : P60) (p : Plan) : (s.activate p).orders = s.orders := rfl

@[simp] theorem orders_reloadInhibits (s : P60) : s.reloadInhibits.orders = s.orders := rfl

@[simp] theorem orders_commitPlan (s : P60) (p : Plan) : (s.commitPlan p).orders = s.orders := rfl

/-! ## Sections -/

@[simp] theorem orders_setProving (s : P60) (n : Nat) (t : Option Nat) :
    (s.setProving n t).orders = s.orders := rfl

@[simp] theorem orders_autoRelease (s : P60) (k : SlotId) (n : Nat) :
    (s.autoRelease k n).orders = s.orders := by
  unfold P60.autoRelease
  (repeat' split) <;> simp

@[simp] theorem orders_evaluateRelease (s : P60) (k : SlotId) (n : Nat) :
    (s.evaluateRelease k n).orders = s.orders := by
  unfold P60.evaluateRelease
  (repeat' split) <;> simp

@[simp] theorem orders_confirmEntry (s : P60) (k : SlotId) : (s.confirmEntry k).orders = s.orders := rfl

@[simp] theorem orders_tablePosition (s : P60) (k : SlotId) : (s.tablePosition k).orders = s.orders := by
  unfold P60.tablePosition
  try dsimp only
  repeat' split
  all_goals first | with_reducible rfl | (simp; done) | (refine orders_foldl _ (fun s a => ?_) _ _; (repeat' split) <;> simp; done) |
    (refine Eq.trans (orders_foldl _ (fun s a => ?_) _ _) ?_ <;> (repeat' split) <;> simp; done)

@[simp] theorem orders_detectorClear (s : P60) (n : Nat) (occ : Occupancy) :
    (s.detectorClear n occ).orders = s.orders := by
  unfold P60.detectorClear
  (repeat' split) <;> simp

@[simp] theorem orders_detectorSilent (s : P60) (n : Nat) : (s.detectorSilent n).orders = s.orders := by
  unfold P60.detectorSilent
  (repeat' split) <;> simp

@[simp] theorem orders_clearingExpires (s : P60) (n : Nat) : (s.clearingExpires n).orders = s.orders := by
  unfold P60.clearingExpires
  (repeat' split) <;> simp

@[simp] theorem orders_confirmExpires (s : P60) (n : Nat) : (s.confirmExpires n).orders = s.orders := by
  unfold P60.confirmExpires
  (repeat' split) <;> simp

@[simp] theorem orders_possess (s : P60) (n : Nat) : (s.possess n).orders = s.orders := by
  unfold P60.possess
  (repeat' split) <;> simp

@[simp] theorem orders_setInhibit (s : P60) (n : Nat) (on : Bool) : (s.setInhibit n on).orders = s.orders := by
  unfold P60.setInhibit
  (repeat' split) <;> simp

/-! ## Turnouts -/

@[simp] theorem orders_setTurnout (s : P60) (t : Nat) (st : TurnoutState) :
    (s.setTurnout t st).orders = s.orders := rfl

@[simp] theorem orders_reportUnlocked (s : P60) (r : TurnoutRec) (v : TurnoutValue) :
    (s.reportUnlocked r v).orders = s.orders := by
  unfold P60.reportUnlocked
  (repeat' split) <;> simp

@[simp] theorem orders_throwExpires (s : P60) (t : Nat) : (s.throwExpires t).orders = s.orders := by
  unfold P60.throwExpires
  (repeat' split) <;> simp

/-! ## Pads -/

@[simp] theorem orders_setLoadOf (s : P60) (k : SlotId) (i : Identity) (present : Bool) :
    (s.setLoadOf k i present).orders = s.orders := by
  unfold P60.setLoadOf
  (repeat' split) <;> simp

@[simp] theorem orders_answerHead (s : P60) (a : Answer) : (s.answerHead a).orders = s.orders := by
  unfold P60.answerHead
  (repeat' split) <;> simp

/-! ## Positions -/

@[simp] theorem orders_creep (s : P60) (k : SlotId) : (s.creep k).orders = s.orders := by
  unfold P60.creep
  (repeat' split) <;> simp

@[simp] theorem orders_noteReport (s : P60) (k : SlotId) (rep : PositionReport) (still : Bool) :
    (s.noteReport k rep still).orders = s.orders := rfl

/-! ## FieldLink -/

@[simp] theorem orders_noteTransmitted (s : P60) (n : Nat) (a : Awaiting) :
    (s.noteTransmitted n a).orders = s.orders := by
  unfold P60.noteTransmitted
  try dsimp only
  repeat' split
  all_goals first | with_reducible rfl | (simp; done) | (refine orders_foldl _ (fun s a => ?_) _ _; (repeat' split) <;> simp; done) |
    (refine Eq.trans (orders_foldl _ (fun s a => ?_) _ _) ?_ <;> (repeat' split) <;> simp; done)

@[simp] theorem orders_firstSending (s : P60) (a : Nat) (m : FieldMsg) :
    (s.firstSending a m).orders = s.orders := by
  unfold P60.firstSending
  (repeat' split) <;> simp

@[simp] theorem orders_beginExchange (s : P60) (a : Nat) (m : FieldMsg) (sweep : Bool) :
    (s.beginExchange a m sweep).orders = s.orders := by
  unfold P60.beginExchange
  (repeat' split) <;> simp

@[simp] theorem orders_sweepCheck (s : P60) : s.sweepCheck.orders = s.orders := by
  unfold P60.sweepCheck
  (repeat' split) <;> simp

@[simp] theorem orders_endExchange (s : P60) (e : Exchange) : (s.endExchange e).orders = s.orders := by
  unfold P60.endExchange
  (repeat' split) <;> simp

@[simp] theorem orders_resendField (s : P60) (e : Exchange) : (s.resendField e).orders = s.orders := rfl

/-! ## Transporters -/

@[simp] theorem orders_slotReplied (s : P60) (k : SlotId) : (s.slotReplied k).orders = s.orders := rfl

@[simp] theorem orders_strangerReplied (s : P60) (i : Identity) : (s.strangerReplied i).orders = s.orders := rfl

@[simp] theorem orders_setPeer (s : P60) (i : Identity) (p : Peer) : (s.setPeer i p).orders = s.orders := by
  unfold P60.setPeer
  (repeat' split) <;> simp

@[simp] theorem orders_peerGone (s : P60) (i : Identity) : (s.peerGone i).orders = s.orders := by
  unfold P60.peerGone
  (repeat' split) <;> simp

@[simp] theorem orders_noteResent (s : P60) (i : Identity) (m : PeerMsg) :
    (s.noteResent i m).orders = s.orders := by
  unfold P60.noteResent
  (repeat' split) <;> simp

@[simp] theorem orders_peerTimeout (i : Identity) (s : P60) : (P60.peerTimeout i s).orders = s.orders := by
  unfold P60.peerTimeout
  try dsimp only
  repeat' split
  all_goals first | (simp; done) | rfl

@[simp] theorem orders_deferralEnds (i : Identity) (place : PlaceName) (s : P60) :
    (P60.deferralEnds i place s).orders = s.orders := by
  unfold P60.deferralEnds
  (repeat' split) <;> simp

@[simp] theorem orders_peerPollDue (i : Identity) (s : P60) : (P60.peerPollDue i s).orders = s.orders := by
  unfold P60.peerPollDue
  (repeat' split) <;> simp

@[simp] theorem orders_repeatAllStop (s : P60) : s.repeatAllStop.orders = s.orders := by
  unfold P60.repeatAllStop
  (repeat' split) <;> simp

/-! ## Power -/

@[simp] theorem orders_comeUp (s : P60) : s.comeUp.orders = s.orders := by
  unfold P60.comeUp
  (repeat' split) <;> simp

@[simp] theorem orders_sampleEstop (s : P60) : s.sampleEstop.orders = s.orders := by
  unfold P60.sampleEstop
  (repeat' split) <;> simp

@[simp] theorem orders_transmit (s : P60) (n : Nat) : (s.transmit n).orders = s.orders := rfl

@[simp] theorem orders_transmitAttention (s : P60) : s.transmitAttention.orders = s.orders := by
  unfold P60.transmitAttention
  try dsimp only
  repeat' split
  all_goals first | (simp; done) | rfl

@[simp] theorem orders_transmitReplies (s : P60) : s.transmitReplies.orders = s.orders := rfl

@[simp] theorem orders_restartReplied (s : P60) : s.restartReplied.orders = s.orders := by
  unfold P60.restartReplied
  (repeat' split) <;> simp

@[simp] theorem orders_serveRestart (s : P60) (r : Request) : (s.serveRestart r).orders = s.orders := by
  unfold P60.serveRestart
  (repeat' split) <;> simp

/-! ## Idle -/

@[simp] theorem orders_tick (s : P60) : s.tick.orders = s.orders := rfl

end Sys2Proof.Machine
end

