-- ==== Sys2Proof/Laws/Owed.lean ====
section
/-! SUPPORT. What a command's end is owed, through the operations that owe it nothing. -/

namespace Sys2Proof.Machine

/-- What a command's end is owed: the hand-over checks and the scan (log 8, log 9). -/
def P60.owed (s : P60) : List Nat × Bool := (s.tasks, s.scanDue)

theorem owed_none {s t : P60} (h : s.owed = t.owed) (ht : t.tasks = []) (hs : t.scanDue = false) :
    s.tasks = [] ∧ s.scanDue = false := by
  simp only [P60.owed, Prod.mk.injEq] at h
  rw [h.1, h.2]
  exact ⟨ht, hs⟩

theorem owed_foldl {α : Type} (f : P60 → α → P60) (h : ∀ s a, (f s a).owed = s.owed) (l : List α)
    (s : P60) : (l.foldl f s).owed = s.owed := by
  induction l generalizing s with
  | nil => rfl
  | cons a l ih => rw [List.foldl_cons, ih, h]

/-! ## State -/

/-! ## Ops -/

@[simp] theorem owed_setSlot (s : P60) (k : SlotId) (x : Slot) : (s.setSlot k x).owed = s.owed := rfl

@[simp] theorem owed_updSlot (s : P60) (k : SlotId) (f : Slot → Slot) : (s.updSlot k f).owed = s.owed := rfl

@[simp] theorem owed_updProgress (s : P60) (k : SlotId) (f : Progress → Progress) :
    (s.updProgress k f).owed = s.owed := rfl

@[simp] theorem owed_updAuthority (s : P60) (k : SlotId) (f : Authority → Authority) :
    (s.updAuthority k f).owed = s.owed := rfl

@[simp] theorem owed_updMotion (s : P60) (k : SlotId) (f : Motion → Motion) :
    (s.updMotion k f).owed = s.owed := rfl

@[simp] theorem owed_updTimer (s : P60) (k : SlotId) (f : PassageTimer → PassageTimer) :
    (s.updTimer k f).owed = s.owed := rfl

@[simp] theorem owed_updDocking (s : P60) (k : SlotId) (f : Docking → Docking) :
    (s.updDocking k f).owed = s.owed := rfl

@[simp] theorem owed_setLocation (s : P60) (t : Nat) (l : Location) : (s.setLocation t l).owed = s.owed := rfl

@[simp] theorem owed_updSection (s : P60) (n : Nat) (f : SectionRec → SectionRec) :
    (s.updSection n f).owed = s.owed := rfl

@[simp] theorem owed_setOcc (s : P60) (n : Nat) (o : Occupancy) : (s.setOcc n o).owed = s.owed := rfl

@[simp] theorem owed_updTurnout (s : P60) (t : Nat) (f : TurnoutRec → TurnoutRec) :
    (s.updTurnout t f).owed = s.owed := rfl

@[simp] theorem owed_updOrder (s : P60) (id : Nat) (f : Order → Order) : (s.updOrder id f).owed = s.owed := rfl

@[simp] theorem owed_setOrderState (s : P60) (id : Nat) (st : OrderState) :
    (s.setOrderState id st).owed = s.owed := rfl

@[simp] theorem owed_raise (s : P60) (e : EventKind) : (s.raise e).owed = s.owed := rfl

@[simp] theorem owed_send (s : P60) (f : Frame) : (s.send f).owed = s.owed := rfl

@[simp] theorem owed_sendOnce (s : P60) (i : Identity) (p : Peer) (m : PeerMsg) :
    (s.sendOnce i p m).owed = s.owed := rfl

@[simp] theorem owed_hand (s : P60) (k : SlotId) (place : PlaceName) (m : PeerMsg) :
    (s.hand k place m).owed = s.owed := by
  unfold P60.hand
  (repeat' split) <;> simp

@[simp] theorem owed_updUnit (s : P60) (a : Nat) (f : FieldUnit → FieldUnit) :
    (s.updUnit a f).owed = s.owed := rfl

@[simp] theorem owed_command (s : P60) (a : Nat) (m : FieldMsg) : (s.command a m).owed = s.owed := by
  unfold P60.command
  try dsimp only
  repeat' split
  all_goals first | (simp; done) | rfl

@[simp] theorem owed_commandTo (s : P60) (kind : UnitKind) (n : Nat) (m : FieldMsg) :
    (s.commandTo kind n m).owed = s.owed := by
  unfold P60.commandTo
  (repeat' split) <;> simp

/-! ## Flags -/

@[simp] theorem owed_syncAttention (s : P60) : s.syncAttention.owed = s.owed := rfl

@[simp] theorem owed_setDiscrepancy (s : P60) (n : Nat) : (s.setDiscrepancy n).owed = s.owed := by
  unfold P60.setDiscrepancy
  (repeat' split) <;> simp

@[simp] theorem owed_setFault (s : P60) (k : SlotId) (c : FaultCause) : (s.setFault k c).owed = s.owed := rfl

@[simp] theorem owed_joinChangeSet (s : P60) (k : SlotId) : (s.joinChangeSet k).owed = s.owed := by
  unfold P60.joinChangeSet
  try dsimp only
  repeat' split
  all_goals first | (simp; done) | rfl

/-! ## Throws -/

@[simp] theorem owed_beginThrow (s : P60) (t : Nat) (x : Leg) (sl : ThrowSlot) :
    (s.beginThrow t x sl).owed = s.owed := by
  unfold P60.beginThrow
  (repeat' split) <;> simp

/-! ## Waits -/

@[simp] theorem owed_searchDeadlock (s : P60) (k : SlotId) : (s.searchDeadlock k).owed = s.owed := by
  unfold P60.searchDeadlock
  try dsimp only
  repeat' split
  all_goals first | (simp; done) | rfl

@[simp] theorem owed_beginWait (s : P60) (k : SlotId) (n : Nat) (on : WaitOn) :
    (s.beginWait k n on).owed = s.owed := by
  unfold P60.beginWait
  (repeat' split) <;> simp

@[simp] theorem owed_recordWait (s : P60) (k : SlotId) (n : Nat) (on : WaitOn) :
    (s.recordWait k n on).owed = s.owed := by
  unfold P60.recordWait
  (repeat' split) <;> simp

@[simp] theorem owed_reviseWaits (s : P60) (n : Nat) (on : WaitOn) : (s.reviseWaits n on).owed = s.owed := by
  unfold P60.reviseWaits
  try dsimp only
  repeat' split
  all_goals first | with_reducible rfl | (simp; done) | (refine owed_foldl _ (fun s a => ?_) _ _; (repeat' split) <;> simp; done) |
    (refine Eq.trans (owed_foldl _ (fun s a => ?_) _ _) ?_ <;> (repeat' split) <;> simp; done)

/-! ## Reservation -/

@[simp] theorem owed_grant (s : P60) (k : SlotId) (n : Nat) (entry : Side) (x : Option Leg) :
    (s.grant k n entry x).owed = s.owed := by
  unfold P60.grant
  (repeat' split) <;> simp

@[simp] theorem owed_arbiterFrom (q : List (Nat × Leg)) (s : P60) :
    (P60.arbiterFrom q s).owed = s.owed := by
  induction q generalizing s with
  | nil => rfl
  | cons a q ih =>
    obtain ⟨t, x⟩ := a
    unfold P60.arbiterFrom
    repeat' split
    all_goals first | rfl | (simp [ih]; done)

@[simp] theorem owed_arbiter (s : P60) : s.arbiter.owed = s.owed := owed_arbiterFrom _ _

@[simp] theorem owed_throwRequest (s : P60) (t : Nat) (x : Leg) :
    (s.throwRequest t x).1.owed = s.owed := by
  unfold P60.throwRequest
  repeat' split
  all_goals first | rfl | exact owed_arbiter _

@[simp] theorem owed_askThrow (s : P60) (n : Nat) (x : Option Leg) : (s.askThrow n x).owed = s.owed := by
  unfold P60.askThrow
  (repeat' split) <;> simp

@[simp] theorem owed_releaseNow (s : P60) (n : Nat) : (s.releaseNow n).owed = s.owed := by
  unfold P60.releaseNow
  (repeat' split) <;> simp

@[simp] theorem owed_releaseRequest (s : P60) (n : Nat) (o : Owner) : (s.releaseRequest n o).owed = s.owed := by
  unfold P60.releaseRequest
  (repeat' split) <;> simp

@[simp] theorem owed_releaseAll (s : P60) (l : List Nat) (o : Owner) : (s.releaseAll l o).owed = s.owed := by
  unfold P60.releaseAll
  try dsimp only
  repeat' split
  all_goals first | with_reducible rfl | (simp; done) | (refine owed_foldl _ (fun s a => ?_) _ _; (repeat' split) <;> simp; done) |
    (refine Eq.trans (owed_foldl _ (fun s a => ?_) _ _) ?_ <;> (repeat' split) <;> simp; done)

@[simp] theorem owed_disturb (s : P60) (n : Nat) : (s.disturb n).owed = s.owed := rfl

@[simp] theorem owed_disturbOwned (s : P60) (n : Nat) : (s.disturbOwned n).owed = s.owed := by
  unfold P60.disturbOwned
  (repeat' split) <;> simp

@[simp] theorem owed_adoptOne (s : P60) (k : SlotId) (n : Nat) : (s.adoptOne k n).owed = s.owed := by
  unfold P60.adoptOne
  (repeat' split) <;> simp

/-! ## Stages -/

@[simp] theorem owed_judgeTimer (s : P60) (k : SlotId) : (s.judgeTimer k).owed = s.owed := by
  unfold P60.judgeTimer
  (repeat' split) <;> simp

@[simp] theorem owed_loadTimer (s : P60) (k : SlotId) (o : Order) (j : Nat) :
    (s.loadTimer k o j).owed = s.owed := by
  unfold P60.loadTimer
  (repeat' split) <;> simp

@[simp] theorem owed_stopTimerSuspended (s : P60) (k : SlotId) : (s.stopTimerSuspended k).owed = s.owed := rfl

@[simp] theorem owed_stopTimerFinished (s : P60) (k : SlotId) : (s.stopTimerFinished k).owed = s.owed := rfl

@[simp] theorem owed_setStatus (s : P60) (k : SlotId) (st : SlotState) : (s.setStatus k st).owed = s.owed := rfl

/-! ## Braking -/

@[simp] theorem owed_sendAuthority (s : P60) (k : SlotId) (e : Eoa) : (s.sendAuthority k e).owed = s.owed := by
  unfold P60.sendAuthority
  (repeat' split) <;> simp

@[simp] theorem owed_sendBrake (s : P60) (k : SlotId) : (s.sendBrake k).owed = s.owed := by
  unfold P60.sendBrake
  (repeat' split) <;> simp

@[simp] theorem owed_dropAuthority (s : P60) (k : SlotId) : (s.dropAuthority k).owed = s.owed := rfl

@[simp] theorem owed_handEoa (s : P60) (k : SlotId) (e : Option Eoa) : (s.handEoa k e).owed = s.owed := by
  unfold P60.handEoa
  (repeat' split) <;> simp

@[simp] theorem owed_allStopRequest (s : P60) : s.allStopRequest.owed = s.owed := rfl

@[simp] theorem owed_reissue (s : P60) (k : SlotId) : (s.reissue k).owed = s.owed := by
  unfold P60.reissue
  (repeat' split) <;> simp

@[simp] theorem owed_updateCeiling (s : P60) (k : SlotId) : (s.updateCeiling k).owed = s.owed := by
  unfold P60.updateCeiling
  (repeat' split) <;> simp

@[simp] theorem owed_unauthorised (s : P60) (k : SlotId) (rep : PositionReport) :
    (s.unauthorised k rep).owed = s.owed := by
  unfold P60.unauthorised
  try dsimp only
  repeat' split
  all_goals first | (simp; done) | rfl

@[simp] theorem owed_cutBack (s : P60) (k : SlotId) : (s.cutBack k).owed = s.owed := by
  unfold P60.cutBack
  try dsimp only
  repeat' split
  all_goals first | (simp; done) | rfl

/-! ## RouteSetter -/

@[simp] theorem owed_formEoa (s : P60) (k : SlotId) : (s.formEoa k).owed = s.owed := by
  unfold P60.formEoa
  try dsimp only
  repeat' split
  all_goals first | (simp; done) | rfl

@[simp] theorem owed_lowerReach (s : P60) (k : SlotId) (j : Nat) : (s.lowerReach k j).owed = s.owed := by
  unfold P60.lowerReach
  (repeat' split) <;> simp

@[simp] theorem owed_loseFromRun (s : P60) (k : SlotId) (n : Nat) : (s.loseFromRun k n).owed = s.owed := by
  unfold P60.loseFromRun
  try dsimp only
  repeat' split
  all_goals first | (simp; done) | rfl

@[simp] theorem owed_noteRear (s : P60) (k : SlotId) : (s.noteRear k).owed = s.owed := by
  unfold P60.noteRear
  try dsimp only
  repeat' split
  all_goals first | (simp; done) | rfl

@[simp] theorem owed_capture (s : P60) (k : SlotId) (o : Order) (j : Nat) :
    (s.capture k o j).owed = s.owed := by
  unfold P60.capture
  try dsimp only
  repeat' split
  all_goals first | (simp; done) | rfl

@[simp] theorem owed_keepOrReturn (s : P60) (k : SlotId) (n : Nat) : (s.keepOrReturn k n).owed = s.owed := by
  unfold P60.keepOrReturn
  (repeat' split) <;> simp

/-! ## Movement -/

@[simp] theorem owed_releaseAheadNow (s : P60) (k : SlotId) : (s.releaseAheadNow k).owed = s.owed := by
  unfold P60.releaseAheadNow
  (repeat' split) <;> simp

@[simp] theorem owed_emptyAuthority (s : P60) (k : SlotId) : (s.emptyAuthority k).owed = s.owed := by
  unfold P60.emptyAuthority
  (repeat' split) <;> simp

/-! ## Docking -/

@[simp] theorem owed_await (s : P60) (k : SlotId) (a : Awaiting) (limit : Nat) :
    (s.await k a limit).owed = s.owed := rfl

@[simp] theorem owed_updPad (s : P60) (n : Nat) (f : PadRec → PadRec) : (s.updPad n f).owed = s.owed := rfl

@[simp] theorem owed_endStage (s : P60) (k : SlotId) : (s.endStage k).owed = s.owed := rfl

@[simp] theorem owed_clampSilent (s : P60) (n : Nat) : (s.clampSilent n).owed = s.owed := rfl

@[simp] theorem owed_setLoad (s : P60) (k : SlotId) (present : Bool) : (s.setLoad k present).owed = s.owed := rfl

@[simp] theorem owed_unawaited (s : P60) (k : SlotId) (present : Bool) :
    (s.unawaited k present).owed = s.owed := by
  unfold P60.unawaited
  try dsimp only
  repeat' split
  all_goals first | (simp; done) | rfl

@[simp] theorem owed_liftedReport (s : P60) (k : SlotId) : (s.liftedReport k).owed = s.owed := by
  unfold P60.liftedReport
  try dsimp only
  repeat' split
  all_goals first | (simp; done) | rfl

@[simp] theorem owed_loweredReport (s : P60) (k : SlotId) : (s.loweredReport k).owed = s.owed := by
  unfold P60.loweredReport
  try dsimp only
  repeat' split
  all_goals first | (simp; done) | rfl

/-! ## Holds -/

@[simp] theorem owed_updFeeder (s : P60) (f : FeederId) (g : Feeder → Feeder) :
    (s.updFeeder f g).owed = s.owed := rfl

@[simp] theorem owed_setFeederState (s : P60) (f : FeederId) (st : FeederState) :
    (s.setFeederState f st).owed = s.owed := rfl

@[simp] theorem owed_countTrip (s : P60) (f : FeederId) : (s.countTrip f).owed = s.owed := rfl

@[simp] theorem owed_overcurrentGone (s : P60) (f : FeederId) : (s.overcurrentGone f).owed = s.owed := by
  unfold P60.overcurrentGone
  try dsimp only
  repeat' split
  all_goals first | (simp; done) | rfl

/-! ## Roster -/

@[simp] theorem owed_reconcileLoad (s : P60) (k : SlotId) : (s.reconcileLoad k).owed = s.owed := by
  unfold P60.reconcileLoad
  (repeat' split) <;> simp

@[simp] theorem owed_placeBind (s : P60) (k : SlotId) : (s.placeBind k).owed = s.owed := rfl

@[simp] theorem owed_leaveHeldSets (s : P60) (k : SlotId) : (s.leaveHeldSets k).owed = s.owed := by
  unfold P60.leaveHeldSets
  try dsimp only
  repeat' split
  all_goals first | (simp; done) | rfl

@[simp] theorem owed_updStranger (s : P60) (i : Identity) (f : Stranger → Stranger) :
    (s.updStranger i f).owed = s.owed := rfl

@[simp] theorem owed_dropStranger (s : P60) (i : Identity) : (s.dropStranger i).owed = s.owed := rfl

@[simp] theorem owed_addStranger (s : P60) (a : Announcement) (why : StrangerReason) :
    (s.addStranger a why).owed = s.owed := by
  unfold P60.addStranger
  try dsimp only
  repeat' split
  all_goals first | (simp; done) | rfl

/-! ## Links -/

@[simp] theorem owed_pumpSlot (s : P60) (k : SlotId) : (s.pumpSlot k).owed = s.owed := by
  unfold P60.pumpSlot
  (repeat' split) <;> simp

@[simp] theorem owed_pumpStranger (s : P60) (i : Identity) : (s.pumpStranger i).owed = s.owed := by
  unfold P60.pumpStranger
  (repeat' split) <;> simp

/-! ## Clock -/

@[simp] theorem owed_advance (s : P60) (n : Nat) : (s.advance n).owed = s.owed := rfl

@[simp] theorem owed_quiet (s : P60) : s.quiet.owed = s.owed := rfl

/-! ## Requests -/

@[simp] theorem owed_answer (s : P60) (r : Request) (a : Answer) : (s.answer r a).owed = s.owed := rfl

@[simp] theorem owed_arrival (s : P60) (r : Request) : (s.arrival r).owed = s.owed := by
  unfold P60.arrival
  try dsimp only
  repeat' split
  all_goals first | (simp; done) | rfl

/-! ## PlanStore -/

@[simp] theorem owed_activate (s : P60) (p : Plan) : (s.activate p).owed = s.owed := rfl

@[simp] theorem owed_reloadInhibits (s : P60) : s.reloadInhibits.owed = s.owed := rfl

/-! ## Sections -/

@[simp] theorem owed_setProving (s : P60) (n : Nat) (t : Option Nat) : (s.setProving n t).owed = s.owed := rfl

@[simp] theorem owed_autoRelease (s : P60) (k : SlotId) (n : Nat) : (s.autoRelease k n).owed = s.owed := by
  unfold P60.autoRelease
  (repeat' split) <;> simp

@[simp] theorem owed_evaluateRelease (s : P60) (k : SlotId) (n : Nat) :
    (s.evaluateRelease k n).owed = s.owed := by
  unfold P60.evaluateRelease
  (repeat' split) <;> simp

@[simp] theorem owed_confirmEntry (s : P60) (k : SlotId) : (s.confirmEntry k).owed = s.owed := rfl

@[simp] theorem owed_tablePosition (s : P60) (k : SlotId) : (s.tablePosition k).owed = s.owed := by
  unfold P60.tablePosition
  try dsimp only
  repeat' split
  all_goals first | with_reducible rfl | (simp; done) | (refine owed_foldl _ (fun s a => ?_) _ _; (repeat' split) <;> simp; done) |
    (refine Eq.trans (owed_foldl _ (fun s a => ?_) _ _) ?_ <;> (repeat' split) <;> simp; done)

@[simp] theorem owed_detectorSilent (s : P60) (n : Nat) : (s.detectorSilent n).owed = s.owed := by
  unfold P60.detectorSilent
  (repeat' split) <;> simp

@[simp] theorem owed_confirmExpires (s : P60) (n : Nat) : (s.confirmExpires n).owed = s.owed := by
  unfold P60.confirmExpires
  (repeat' split) <;> simp

@[simp] theorem owed_possess (s : P60) (n : Nat) : (s.possess n).owed = s.owed := by
  unfold P60.possess
  (repeat' split) <;> simp

/-! ## Turnouts -/

@[simp] theorem owed_setTurnout (s : P60) (t : Nat) (st : TurnoutState) :
    (s.setTurnout t st).owed = s.owed := rfl

@[simp] theorem owed_throwExpires (s : P60) (t : Nat) : (s.throwExpires t).owed = s.owed := by
  unfold P60.throwExpires
  (repeat' split) <;> simp

/-! ## Pads -/

@[simp] theorem owed_setLoadOf (s : P60) (k : SlotId) (i : Identity) (present : Bool) :
    (s.setLoadOf k i present).owed = s.owed := by
  unfold P60.setLoadOf
  (repeat' split) <;> simp

@[simp] theorem owed_answerHead (s : P60) (a : Answer) : (s.answerHead a).owed = s.owed := by
  unfold P60.answerHead
  (repeat' split) <;> simp

/-! ## Positions -/

@[simp] theorem owed_creep (s : P60) (k : SlotId) : (s.creep k).owed = s.owed := by
  unfold P60.creep
  (repeat' split) <;> simp

@[simp] theorem owed_noteReport (s : P60) (k : SlotId) (rep : PositionReport) (still : Bool) :
    (s.noteReport k rep still).owed = s.owed := rfl

/-! ## FieldLink -/

@[simp] theorem owed_noteTransmitted (s : P60) (n : Nat) (a : Awaiting) :
    (s.noteTransmitted n a).owed = s.owed := by
  unfold P60.noteTransmitted
  try dsimp only
  repeat' split
  all_goals first | with_reducible rfl | (simp; done) | (refine owed_foldl _ (fun s a => ?_) _ _; (repeat' split) <;> simp; done) |
    (refine Eq.trans (owed_foldl _ (fun s a => ?_) _ _) ?_ <;> (repeat' split) <;> simp; done)

@[simp] theorem owed_firstSending (s : P60) (a : Nat) (m : FieldMsg) : (s.firstSending a m).owed = s.owed := by
  unfold P60.firstSending
  (repeat' split) <;> simp

@[simp] theorem owed_sweepCheck (s : P60) : s.sweepCheck.owed = s.owed := by
  unfold P60.sweepCheck
  try dsimp only
  repeat' split
  all_goals first | (simp; done) | rfl

@[simp] theorem owed_resendField (s : P60) (e : Exchange) : (s.resendField e).owed = s.owed := rfl

/-! ## Transporters -/

@[simp] theorem owed_slotReplied (s : P60) (k : SlotId) : (s.slotReplied k).owed = s.owed := rfl

@[simp] theorem owed_strangerReplied (s : P60) (i : Identity) : (s.strangerReplied i).owed = s.owed := rfl

@[simp] theorem owed_setPeer (s : P60) (i : Identity) (p : Peer) : (s.setPeer i p).owed = s.owed := by
  unfold P60.setPeer
  (repeat' split) <;> simp

@[simp] theorem owed_noteResent (s : P60) (i : Identity) (m : PeerMsg) :
    (s.noteResent i m).owed = s.owed := by
  unfold P60.noteResent
  (repeat' split) <;> simp

@[simp] theorem owed_deferralEnds (i : Identity) (place : PlaceName) (s : P60) :
    (P60.deferralEnds i place s).owed = s.owed := by
  unfold P60.deferralEnds
  (repeat' split) <;> simp

@[simp] theorem owed_peerPollDue (i : Identity) (s : P60) : (P60.peerPollDue i s).owed = s.owed := by
  unfold P60.peerPollDue
  (repeat' split) <;> simp

@[simp] theorem owed_repeatAllStop (s : P60) : s.repeatAllStop.owed = s.owed := by
  unfold P60.repeatAllStop
  try dsimp only
  repeat' split
  all_goals first | (simp; done) | rfl

/-! ## Power -/

@[simp] theorem owed_comeUp (s : P60) : s.comeUp.owed = s.owed := by
  unfold P60.comeUp
  try dsimp only
  repeat' split
  all_goals first | (simp; done) | rfl

@[simp] theorem owed_sampleEstop (s : P60) : s.sampleEstop.owed = s.owed := by
  unfold P60.sampleEstop
  try dsimp only
  repeat' split
  all_goals first | (simp; done) | rfl

@[simp] theorem owed_transmit (s : P60) (n : Nat) : (s.transmit n).owed = s.owed := rfl

@[simp] theorem owed_transmitAttention (s : P60) : s.transmitAttention.owed = s.owed := by
  unfold P60.transmitAttention
  try dsimp only
  repeat' split
  all_goals first | (simp; done) | rfl

@[simp] theorem owed_transmitReplies (s : P60) : s.transmitReplies.owed = s.owed := rfl

@[simp] theorem owed_restartReplied (s : P60) : s.restartReplied.owed = s.owed := by
  unfold P60.restartReplied
  try dsimp only
  repeat' split
  all_goals first | (simp; done) | rfl

@[simp] theorem owed_serveRestart (s : P60) (r : Request) : (s.serveRestart r).owed = s.owed := by
  unfold P60.serveRestart
  try dsimp only
  repeat' split
  all_goals first | (simp; done) | rfl

/-! ## Idle -/

@[simp] theorem owed_tick (s : P60) : s.tick.owed = s.owed := rfl

end Sys2Proof.Machine
end

