-- ==== Sys2Proof/Laws/PerInstr.lean ====
section
/-! SUPPORT. The family Request: what is true of every command as a request, one lemma per constructor. -/

namespace Sys2Proof.Laws.Request

open Sys2Proof.Machine

/-- A request command of tag t stands for a request of tag t, and no other command but a malformed request
stands for a request at all (section 11.6). -/
def Statement (c : Instr) : Prop :=
  ∀ r, requestOf c = some r → c.tag? = some r.tag ∨ ∃ t k p, c = .malformedRequest t k p

theorem powerOn : Statement .powerOn := fun _ h => nomatch h

theorem restartReset : Statement .restartReset := fun _ h => nomatch h

theorem requestArrival (tag kind : Byte) (payload : List Byte) :
    Statement (.requestArrival tag kind payload) := fun _ h => nomatch h

theorem corruptFrame (link : Link) (bytes : List Byte) :
    Statement (.corruptFrame link bytes) := fun _ h => nomatch h

theorem interByteTimeout (link : Link) : Statement (.interByteTimeout link) := fun _ h => nomatch h

theorem malformedRequest (tag kind : Byte) (payload : List Byte) :
    Statement (.malformedRequest tag kind payload) := fun _ _ => .inr ⟨_, _, _, rfl⟩

theorem identify (tag : Byte) : Statement (.identify tag) := fun _ h => by cases h; exact .inl rfl

theorem queryAttention (tag : Byte) : Statement (.queryAttention tag) := fun _ h => by cases h; exact .inl rfl

theorem restart (tag : Byte) : Statement (.restart tag) := fun _ h => by cases h; exact .inl rfl

theorem restartReplySent : Statement .restartReplySent := fun _ h => nomatch h

theorem keepalive (tag : Byte) : Statement (.keepalive tag) := fun _ h => by cases h; exact .inl rfl

theorem armSilence (tag : Byte) (period : Word) :
    Statement (.armSilence tag period) := fun _ h => by cases h; exact .inl rfl

theorem queryField (tag address : Byte) :
    Statement (.queryField tag address) := fun _ h => by cases h; exact .inl rfl

theorem planBegin (tag : Byte) (count : Half) (crc id : Word) :
    Statement (.planBegin tag count crc id) := fun _ h => by cases h; exact .inl rfl

theorem planRecord (tag : Byte) (bytes : List Byte) :
    Statement (.planRecord tag bytes) := fun _ h => by cases h; exact .inl rfl

theorem planCommit (tag : Byte) : Statement (.planCommit tag) := fun _ h => by cases h; exact .inl rfl

theorem queryPlan (tag : Byte) (selector : PlanSelector) :
    Statement (.queryPlan tag selector) := fun _ h => by cases h; exact .inl rfl

theorem possessSection (tag sec : Byte) :
    Statement (.possessSection tag sec) := fun _ h => by cases h; exact .inl rfl

theorem releaseSection (tag sec : Byte) :
    Statement (.releaseSection tag sec) := fun _ h => by cases h; exact .inl rfl

theorem inhibitSections (tag : Byte) (secs : List Byte) :
    Statement (.inhibitSections tag secs) := fun _ h => by cases h; exact .inl rfl

theorem permitSections (tag : Byte) (secs : List Byte) :
    Statement (.permitSections tag secs) := fun _ h => by cases h; exact .inl rfl

theorem resetSection (tag sec : Byte) :
    Statement (.resetSection tag sec) := fun _ h => by cases h; exact .inl rfl

theorem querySection (tag sec : Byte) :
    Statement (.querySection tag sec) := fun _ h => by cases h; exact .inl rfl

theorem throwTurnout (tag turnout leg : Byte) :
    Statement (.throwTurnout tag turnout leg) := fun _ h => by cases h; exact .inl rfl

theorem resetTurnout (tag turnout : Byte) :
    Statement (.resetTurnout tag turnout) := fun _ h => by cases h; exact .inl rfl

theorem queryTurnout (tag turnout : Byte) :
    Statement (.queryTurnout tag turnout) := fun _ h => by cases h; exact .inl rfl

theorem insertOrders (tag : Byte) (pos : Position) (batch : List OrderDesc) :
    Statement (.insertOrders tag pos batch) := fun _ h => by cases h; exact .inl rfl

theorem moveOrder (tag : Byte) (id : Half) (pos : Position) :
    Statement (.moveOrder tag id pos) := fun _ h => by cases h; exact .inl rfl

theorem removeOrder (tag : Byte) (id : Half) :
    Statement (.removeOrder tag id) := fun _ h => by cases h; exact .inl rfl

theorem collectFinished (tag : Byte) : Statement (.collectFinished tag) := fun _ h => by cases h; exact .inl rfl

theorem cancelOrder (tag : Byte) (id : Half) :
    Statement (.cancelOrder tag id) := fun _ h => by cases h; exact .inl rfl

theorem stopOrder (tag : Byte) (id : Half) :
    Statement (.stopOrder tag id) := fun _ h => by cases h; exact .inl rfl

theorem resumeOrder (tag : Byte) (id : Half) :
    Statement (.resumeOrder tag id) := fun _ h => by cases h; exact .inl rfl

theorem queryOrder (tag : Byte) (id : Half) :
    Statement (.queryOrder tag id) := fun _ h => by cases h; exact .inl rfl

theorem listOrders (tag start : Byte) :
    Statement (.listOrders tag start) := fun _ h => by cases h; exact .inl rfl

theorem queryWaits (tag : Byte) : Statement (.queryWaits tag) := fun _ h => by cases h; exact .inl rfl

theorem queryDeadlock (tag : Byte) : Statement (.queryDeadlock tag) := fun _ h => by cases h; exact .inl rfl

theorem queryAuthority (tag slot : Byte) :
    Statement (.queryAuthority tag slot) := fun _ h => by cases h; exact .inl rfl

theorem queryMotion (tag slot : Byte) :
    Statement (.queryMotion tag slot) := fun _ h => by cases h; exact .inl rfl

theorem lockPad (tag pad : Byte) : Statement (.lockPad tag pad) := fun _ h => by cases h; exact .inl rfl

theorem placeTelescope (tag telescope : Byte) (target : PlaceTarget) :
    Statement (.placeTelescope tag telescope target) := fun _ h => by cases h; exact .inl rfl

theorem queryPad (tag pad : Byte) : Statement (.queryPad tag pad) := fun _ h => by cases h; exact .inl rfl

theorem queryTelescope (tag telescope : Byte) :
    Statement (.queryTelescope tag telescope) := fun _ h => by cases h; exact .inl rfl

theorem setAcceptance (tag : Byte) (entries : List AcceptEntry) :
    Statement (.setAcceptance tag entries) := fun _ h => by cases h; exact .inl rfl

theorem queryAcceptance (tag : Byte) : Statement (.queryAcceptance tag) := fun _ h => by cases h; exact .inl rfl

theorem queryRoster (tag : Byte) : Statement (.queryRoster tag) := fun _ h => by cases h; exact .inl rfl

theorem querySlot (tag slot : Byte) : Statement (.querySlot tag slot) := fun _ h => by cases h; exact .inl rfl

theorem queryStrangers (tag : Byte) : Statement (.queryStrangers tag) := fun _ h => by cases h; exact .inl rfl

theorem releaseSlot (tag slot : Byte) :
    Statement (.releaseSlot tag slot) := fun _ h => by cases h; exact .inl rfl

theorem clearSlotFault (tag slot : Byte) :
    Statement (.clearSlotFault tag slot) := fun _ h => by cases h; exact .inl rfl

theorem setHoldPolicy (tag laden unladen : Byte) :
    Statement (.setHoldPolicy tag laden unladen) := fun _ h => by cases h; exact .inl rfl

theorem resetFeeder (tag feeder : Byte) :
    Statement (.resetFeeder tag feeder) := fun _ h => by cases h; exact .inl rfl

theorem resetStop (tag : Byte) : Statement (.resetStop tag) := fun _ h => by cases h; exact .inl rfl

theorem queryHolds (tag : Byte) : Statement (.queryHolds tag) := fun _ h => by cases h; exact .inl rfl

theorem nvmWriteComplete : Statement .nvmWriteComplete := fun _ h => nomatch h

theorem attentionRecord : Statement .attentionRecord := fun _ h => nomatch h

theorem scanEnd : Statement .scanEnd := fun _ h => nomatch h

theorem detectorReport (address tag : Byte) (value : DetectorValue) :
    Statement (.detectorReport address tag value) := fun _ h => nomatch h

theorem turnoutReport (address tag : Byte) (value : TurnoutValue) :
    Statement (.turnoutReport address tag value) := fun _ h => nomatch h

theorem clampReport (address tag : Byte) (value : ClampValue) :
    Statement (.clampReport address tag value) := fun _ h => nomatch h

theorem fieldReplyTimeout : Statement .fieldReplyTimeout := fun _ h => nomatch h

theorem fieldPollDue (address : Byte) : Statement (.fieldPollDue address) := fun _ h => nomatch h

theorem fieldExchangeBegin : Statement .fieldExchangeBegin := fun _ h => nomatch h

theorem announce (a : Announcement) : Statement (.announce a) := fun _ h => nomatch h

theorem position (ident : Identity) (tag : Byte) (report : PositionReport) :
    Statement (.position ident tag report) := fun _ h => nomatch h

theorem ack (ident : Identity) (tag : Byte) : Statement (.ack ident tag) := fun _ h => nomatch h

theorem busy (ident : Identity) (tag : Byte) : Statement (.busy ident tag) := fun _ h => nomatch h

theorem lifted (ident : Identity) (tag : Byte) :
    Statement (.lifted ident tag) := fun _ h => nomatch h

theorem lowered (ident : Identity) (tag : Byte) : Statement (.lowered ident tag) := fun _ h => nomatch h

theorem depart (ident : Identity) (tag : Byte) : Statement (.depart ident tag) := fun _ h => nomatch h

theorem fault (ident : Identity) (tag code : Byte) : Statement (.fault ident tag code) := fun _ h => nomatch h

theorem strayTransporterMessage (ident : Identity) (tag kind : Byte) (body : List Byte) :
    Statement (.strayTransporterMessage ident tag kind body) := fun _ h => nomatch h

theorem transporterReplyTimeout (ident : Identity) :
    Statement (.transporterReplyTimeout ident) := fun _ h => nomatch h

theorem busyDeferralEnd (ident : Identity) (place : PlaceName) :
    Statement (.busyDeferralEnd ident place) := fun _ h => nomatch h

theorem transporterPollDue (ident : Identity) : Statement (.transporterPollDue ident) := fun _ h => nomatch h

theorem allStopRepeat : Statement .allStopRepeat := fun _ h => nomatch h

theorem minimumHoldEnd (sec : Byte) : Statement (.minimumHoldEnd sec) := fun _ h => nomatch h

theorem clearingTimerExpiry (sec : Byte) : Statement (.clearingTimerExpiry sec) := fun _ h => nomatch h

theorem provingTimerExpiry (sec : Byte) : Statement (.provingTimerExpiry sec) := fun _ h => nomatch h

theorem entryConfirmationExpiry (sec : Byte) : Statement (.entryConfirmationExpiry sec) := fun _ h => nomatch h

theorem throwTimerExpiry (turnout : Byte) : Statement (.throwTimerExpiry turnout) := fun _ h => nomatch h

theorem passageOverdue (slot : SlotId) : Statement (.passageOverdue slot) := fun _ h => nomatch h

theorem stageTimerExpiry (slot : SlotId) : Statement (.stageTimerExpiry slot) := fun _ h => nomatch h

theorem silenceExpiry : Statement .silenceExpiry := fun _ h => nomatch h

theorem windHoldAsserted : Statement .windHoldAsserted := fun _ h => nomatch h

theorem windHoldDeasserted : Statement .windHoldDeasserted := fun _ h => nomatch h

theorem emergencyStopAsserted : Statement .emergencyStopAsserted := fun _ h => nomatch h

theorem emergencyStopDeasserted : Statement .emergencyStopDeasserted := fun _ h => nomatch h

theorem feederOvercurrentAsserted (feeder : FeederId) :
    Statement (.feederOvercurrentAsserted feeder) := fun _ h => nomatch h

theorem feederOvercurrentDeasserted (feeder : FeederId) :
    Statement (.feederOvercurrentDeasserted feeder) := fun _ h => nomatch h

theorem restoreTimerExpiry (feeder : FeederId) : Statement (.restoreTimerExpiry feeder) := fun _ h => nomatch h

theorem fieldFrameNotAReply (address tag kind : Byte) (body : List Byte) :
    Statement (.fieldFrameNotAReply address tag kind body) := fun _ h => nomatch h

end Sys2Proof.Laws.Request
end

