-- ==== Sys2Proof/Laws/Plans.lean ====
section
/-! SUPPORT. What the checks of a plan commit decide: each check of a record is the condition that the statements
name, and the first failing record is found (R11); and what PLAN_BEGIN is refused, in which order (R7). -/

namespace Sys2Proof.Machine

theorem inRange_eq_true (lo hi n : Nat) : inRange lo hi n = true ↔ lo ≤ n ∧ n ≤ hi := by
  simp [inRange]

theorem rawJoin_inRange_iff (j : RawJoin) : j.inRange = true ↔ j.ranged := by
  simp [RawJoin.inRange, RawJoin.ranged, inRange_eq_true, and_assoc]

theorem kindOf_cases (n : Nat) :
    (n = 1 ∧ kindOf n = some .plain) ∨ (n = 2 ∧ kindOf n = some .turnout) ∨ (n = 3 ∧ kindOf n = some .spur) ∨
      (n ≠ 1 ∧ n ≠ 2 ∧ n ≠ 3 ∧ kindOf n = none) := by
  unfold kindOf
  by_cases h1 : n = 1
  · simp [h1]
  · by_cases h2 : n = 2
    · simp [h2]
    · by_cases h3 : n = 3
      · simp [h3]
      · simp [h1, h2, h3]

/-- Step 3 (RANGE) of a record. -/
theorem inRange_iff (r : PlanRec) : r.inRange = true ↔ r.ranged := by
  cases r with
  | sec r =>
    have hk : r.kindFits = true ↔
        ((r.kind = 1 ∧ r.br.sec = 0 ∧ r.turnout = 0 ∧ r.pad = 0) ∨
          (r.kind = 2 ∧ r.a.sec ≠ 0 ∧ r.b.sec ≠ 0 ∧ r.br.sec ≠ 0 ∧ 1 ≤ r.turnout ∧ r.turnout ≤ 48 ∧ r.pad = 0) ∨
          (r.kind = 3 ∧ r.a.sec ≠ 0 ∧ r.b.sec = 0 ∧ r.br.sec = 0 ∧ r.turnout = 0 ∧ 1 ≤ r.pad ∧ r.pad ≤ 160)) := by
      unfold RawSection.kindFits
      rcases kindOf_cases r.kind with ⟨h, e⟩ | ⟨h, e⟩ | ⟨h, e⟩ | ⟨h1, h2, h3, e⟩ <;> rw [e]
      · simp [h, RawJoin.present, and_assoc]
      · simp [h, RawJoin.present, inRange_eq_true, and_assoc]
      · simp [h, RawJoin.present, inRange_eq_true, and_assoc]
      · simp [h1, h2, h3]
    simp only [PlanRec.inRange, PlanRec.ranged, Bool.and_eq_true, inRange_eq_true, rawJoin_inRange_iff,
      decide_eq_true_eq, hk, and_assoc]
  | turnout t => simp [PlanRec.inRange, PlanRec.ranged, inRange_eq_true, and_assoc]
  | pad p => simp [PlanRec.inRange, PlanRec.ranged, inRange_eq_true, and_assoc]
  | margin m => simp [PlanRec.inRange, PlanRec.ranged, inRange_eq_true]
  | unknown => simp [PlanRec.inRange, PlanRec.ranged]

theorem mem_joins (x : PlanSection) (e : SecEnd) (j : Join) :
    (e, j) ∈ x.joins ↔ e ∈ x.kind.ends ∧ x.joinAt e = some j := by
  simp only [PlanSection.joins, List.mem_filterMap, Option.map_eq_some_iff]
  constructor
  · rintro ⟨e', he, j', hj, h⟩
    cases h
    exact ⟨he, hj⟩
  · rintro ⟨he, hj⟩
    exact ⟨e, he, j, hj, rfl⟩

theorem fresh_iff (before : List PlanRec) (r : PlanRec) : r.fresh before = true ↔
    ∀ q ∈ before, (r.defines? ≠ none → q.defines? ≠ r.defines?) ∧
      (r.address? ≠ none → q.address? ≠ r.address?) := by
  simp only [PlanRec.fresh, Bool.and_eq_true, Bool.or_eq_true, Option.isNone_iff_eq_none, Bool.not_eq_true',
    List.contains_eq_mem, decide_eq_false_iff_not, List.mem_map, not_exists, not_and]
  constructor
  · rintro ⟨h1, h2⟩ q hq
    exact ⟨fun h => h1.resolve_left h q hq, fun h => h2.resolve_left h q hq⟩
  · intro h
    constructor
    · by_cases hd : r.defines? = none
      · exact .inl hd
      · exact .inr fun q hq => (h q hq).1 hd
    · by_cases hd : r.address? = none
      · exact .inl hd
      · exact .inr fun q hq => (h q hq).2 hd

/-- Step 4 (REFERENCE) of a record. -/
theorem referring_iff (p : Plan) (before : List PlanRec) (r : PlanRec) :
    (r.fresh before && p.refers r) = true ↔ p.referring before r := by
  rw [Bool.and_eq_true, fresh_iff]
  unfold Plan.referring
  refine and_congr Iff.rfl ?_
  cases r with
  | sec r =>
    unfold Plan.refers
    cases hx : r.section? with
    | none => simp [hx]
    | some x =>
      simp only [hx, Option.some.injEq, Bool.and_eq_true, List.all_eq_true, Prod.forall, mem_joins,
        Plan.joinRefers, bne_iff_ne, ne_eq, Option.any_eq_true, List.contains_eq_mem, decide_eq_true_eq,
        Bool.or_eq_true, and_imp, and_assoc]
      constructor
      · rintro ⟨h1, h2, h3⟩
        refine ⟨x, rfl, fun e j he hj => ?_, fun hk => ?_, fun hk => ?_⟩
        · exact h1 e j he hj
        · have := h2.resolve_left (fun h => h hk)
          simpa [Option.isSome_iff_ne_none] using this
        · have := h3.resolve_left (fun h => h hk)
          simpa [Option.isSome_iff_ne_none] using this
      · rintro ⟨y, rfl, h1, h2, h3⟩
        refine ⟨fun e j he hj => ?_, ?_, ?_⟩
        · exact h1 e j he hj
        · by_cases hk : x.kind = .turnout
          · exact .inr (by simpa [Option.isSome_iff_ne_none] using h2 hk)
          · exact .inl hk
        · by_cases hk : x.kind = .spur
          · exact .inr (by simpa [Option.isSome_iff_ne_none] using h3 hk)
          · exact .inl hk
  | turnout t => simp [Plan.refers, Option.any_eq_true]
  | pad d => simp [Plan.refers, Option.any_eq_true]
  | margin m => simp [Plan.refers]
  | unknown => simp [Plan.refers]

theorem ends_nodup (k : SectionKind) : k.ends.Nodup := by cases k <;> decide

/-- Step 5 (SYMMETRY) of a record. -/
theorem returning_iff (p : Plan) (r : PlanRec) : (r.section?.all p.symmetric) = true ↔ p.returning r := by
  unfold Plan.returning
  cases hx : r.section? with
  | none => simp
  | some x =>
    have key : ∀ e j, e ∈ x.kind.ends → x.joinAt e = some j →
        ((x.joins.filter (fun k => k.2.sec == j.sec)).length = 1 ↔
          ∀ e' j', e' ∈ x.kind.ends → x.joinAt e' = some j' → j'.sec = j.sec → e' = e) := by
      intro e j he hj
      have hnd : (x.joins.filter (fun k => k.2.sec == j.sec)).Nodup := by
        apply List.filter_sublist.nodup
        unfold PlanSection.joins
        have h := ends_nodup x.kind
        revert h
        generalize x.kind.ends = l
        intro h
        induction l with
        | nil => simp
        | cons e' l ih =>
          rw [List.nodup_cons] at h
          rw [List.filterMap_cons]
          cases hje : x.joinAt e' with
          | none => simpa using ih h.2
          | some je =>
            simp only [Option.map_some, List.nodup_cons]
            refine ⟨?_, ih h.2⟩
            simp only [List.mem_filterMap, Option.map_eq_some_iff, not_exists, not_and]
            rintro e2 he2 j' - h'
            cases h'
            exact h.1 he2
      have hmem : (e, j) ∈ x.joins.filter (fun k => k.2.sec == j.sec) := by
        simp [List.mem_filter, mem_joins, he, hj]
      constructor
      · intro h1 e' j' he' hj' hs
        have hmem' : (e', j') ∈ x.joins.filter (fun k => k.2.sec == j.sec) := by
          simp [List.mem_filter, mem_joins, he', hj', hs]
        obtain ⟨a, ha⟩ := List.length_eq_one_iff.1 h1
        rw [ha, List.mem_singleton] at hmem hmem'
        exact congrArg Prod.fst (hmem'.trans hmem.symm)
      · intro h
        have hall : ∀ k ∈ x.joins.filter (fun k => k.2.sec == j.sec), k = (e, j) := by
          rintro ⟨e', j'⟩ hk
          simp only [List.mem_filter, mem_joins, beq_iff_eq] at hk
          have he' := h e' j' hk.1.1 hk.1.2 hk.2
          subst he'
          rw [hj] at hk
          cases hk.1.2
          rfl
        revert hmem hnd hall
        generalize x.joins.filter (fun k => k.2.sec == j.sec) = l
        intro hnd hmem hall
        match l, hnd, hmem, hall with
        | [_], _, _, _ => rfl
        | a :: b :: _, hnd, _, hall =>
          have h1 := hall a (by simp)
          have h2 := hall b (by simp)
          rw [h1, h2] at hnd
          simp at hnd
    simp only [Option.all_some, Plan.symmetric, List.all_eq_true, Prod.forall, mem_joins, and_imp, Bool.and_eq_true,
      Option.any_eq_true, beq_iff_eq, Option.some.injEq]
    constructor
    · intro h y hy e j he hj
      cases hy
      have h' := h e j he hj
      exact ⟨h'.1, (key e j he hj).1 h'.2⟩
    · intro h e j he hj
      have h' := h x rfl e j he hj
      exact ⟨h'.1, (key e j he hj).2 h'.2⟩

/-- Step 6 (CORRESPONDENCE) of a record. -/
theorem corresponding_iff (p : Plan) (r : PlanRec) : p.corresponds r = true ↔ p.corresponding r := by
  cases r with
  | sec r =>
    unfold Plan.corresponds Plan.corresponding
    cases hx : r.section? with
    | none => simp [hx]
    | some x =>
      simp only [hx, Option.some.injEq, Bool.and_eq_true, Bool.or_eq_true, bne_iff_ne, ne_eq,
        Option.any_eq_true, beq_iff_eq]
      constructor
      · rintro ⟨h1, h2⟩
        exact ⟨x, rfl, fun hk => h1.resolve_left (fun h => h hk), fun hk => h2.resolve_left (fun h => h hk)⟩
      · rintro ⟨y, rfl, h1, h2⟩
        constructor
        · by_cases hk : x.kind = .turnout
          · exact .inr (h1 hk)
          · exact .inl hk
        · by_cases hk : x.kind = .spur
          · exact .inr (h2 hk)
          · exact .inl hk
  | turnout t => simp [Plan.corresponds, Plan.corresponding, Option.any_eq_true]
  | pad d => simp [Plan.corresponds, Plan.corresponding, Option.any_eq_true]
  | margin m => simp [Plan.corresponds, Plan.corresponding]
  | unknown => simp [Plan.corresponds, Plan.corresponding]

/-! ## The first failing record -/

theorem firstFailing_none (ok : List PlanRec → PlanRec → Bool) (before rs : List PlanRec) (i : Nat) :
    firstFailing ok before rs i = none ↔ ∀ a r b, rs = a ++ r :: b → ok (before ++ a) r = true := by
  induction rs generalizing before i with
  | nil => simp [firstFailing]
  | cons x rest ih =>
    unfold firstFailing
    by_cases hx : ok before x = true
    · rw [if_pos hx, ih]
      constructor
      · intro h a r b hab
        cases a with
        | nil => cases hab; simpa using hx
        | cons y a => cases hab; simpa using h a r b rfl
      · intro h a r b hab
        subst hab
        simpa using h (x :: a) r b rfl
    · rw [if_neg hx]
      simp only [reduceCtorEq, false_iff]
      intro h
      exact hx (by simpa using h [] x rest rfl)

theorem firstFailing_some (ok : List PlanRec → PlanRec → Bool) (before rs : List PlanRec) (i n : Nat) :
    firstFailing ok before rs i = some n ↔ ∃ a r b, rs = a ++ r :: b ∧ n = i + a.length ∧
      ok (before ++ a) r = false ∧ ∀ a' r' b', a = a' ++ r' :: b' → ok (before ++ a') r' = true := by
  induction rs generalizing before i with
  | nil => simp [firstFailing]
  | cons x rest ih =>
    unfold firstFailing
    by_cases hx : ok before x = true
    · rw [if_pos hx, ih]
      constructor
      · rintro ⟨a, r, b, rfl, rfl, h1, h2⟩
        refine ⟨x :: a, r, b, rfl, by simp; omega, by simpa using h1, ?_⟩
        intro a' r' b' hab
        cases a' with
        | nil => cases hab; simpa using hx
        | cons y a' => cases hab; simpa using h2 a' r' b' rfl
      · rintro ⟨a, r, b, hab, hn, h1, h2⟩
        cases a with
        | nil =>
          cases hab
          rw [List.append_nil] at h1
          rw [hx] at h1
          cases h1
        | cons y a =>
          cases hab
          refine ⟨a, r, b, rfl, by simp at hn; omega, by simpa using h1, ?_⟩
          intro a' r' b' hab
          subst hab
          simpa using h2 (x :: a') r' b' rfl
    · rw [if_neg hx]
      constructor
      · intro h
        cases h
        exact ⟨[], x, rest, rfl, rfl, by simpa using hx, fun a' r' b' h => by simp at h⟩
      · rintro ⟨a, r, b, hab, hn, h1, h2⟩
        cases a with
        | nil => simp [hn]
        | cons y a =>
          cases hab
          exact absurd (by simpa using h2 [] _ a rfl) hx

/-- A check finds no record exactly where every record passes it. -/
theorem passesAll_iff {ok : List PlanRec → PlanRec → Bool} {ok' : List PlanRec → PlanRec → Prop}
    (h : ∀ before r, ok before r = true ↔ ok' before r) (rs : List PlanRec) :
    firstFailing ok [] rs 1 = none ↔ passesAll ok' rs := by
  rw [firstFailing_none]
  simp only [List.nil_append, h]
  exact Iff.rfl

/-- A check finds an index exactly where the first failing record stands there. -/
theorem firstFails_iff {ok : List PlanRec → PlanRec → Bool} {ok' : List PlanRec → PlanRec → Prop}
    (h : ∀ before r, ok before r = true ↔ ok' before r) (rs : List PlanRec) (i : Nat) :
    firstFailing ok [] rs 1 = some i ↔ firstFails ok' rs i := by
  rw [firstFailing_some]
  unfold firstFails passesAll
  simp only [List.nil_append, h, ← Bool.not_eq_true]
  constructor
  · rintro ⟨a, r, b, h1, h2, h3, h4⟩
    exact ⟨a, r, b, h1, by omega, h3, h4⟩
  · rintro ⟨a, r, b, h1, h2, h3, h4⟩
    exact ⟨a, r, b, h1, by omega, h3, h4⟩

/-! ## PLAN_BEGIN -/

/-- A count or an id out of range is refused first, whether or not the list is held (R7). -/
theorem planBegin_unranged {count : Half} {crc id : Word} (s : P60)
    (h : count.toNat < 2 ∨ 449 < count.toNat ∨ id = 0) :
    planBegin count crc id s = refuse s .outOfRange [] := by
  rcases h with h | h | h
  · exact if_pos (.inl (by rw [inRange_eq_true]; omega))
  · exact if_pos (.inl (by rw [inRange_eq_true]; omega))
  · exact if_pos (.inr h)

/-- In range, the list's hold comes before the plan's use, and then the plan is erased (R7, R8). -/
theorem planBegin_ranged {count : Half} {crc id : Word} (s : P60)
    (h : 2 ≤ count.toNat) (h' : count.toNat ≤ 449) (hi : id ≠ 0) :
    planBegin count crc id s =
      if s.scanning then refuse s .listHeld []
      else if s.inUse then refuse s .badState []
      else accept { s.erasePlan with plan := .loading ⟨count.toNat, crc, id⟩ [] } [] := by
  refine if_neg ?_
  rw [inRange_eq_true]
  rintro (hr | h0)
  · exact hr ⟨h, h'⟩
  · exact hi h0

end Sys2Proof.Machine
end

