-- ==== Sys2Proof/Laws/Postures.lean ====
section
/-! SUPPORT. Who a slot is and what its last report said, through the operations that leave it as it was. -/

namespace Sys2Proof.Machine

/-- What the roster keeps of a slot's announcement, and what its last report said. -/
structure Posture where
  ident : Option Identity
  model : Byte
  revision : Byte
  figures : Figures
  load : Bool
  announced : Point × Point
  front : Point
  rear : Point
  speed : Nat
  standing : Bool
  lastReport : Option Word

/-- A slot's posture. -/
def Slot.posture (x : Slot) : Posture :=
  ⟨x.ident, x.model, x.revision, x.figures, x.reportedLoad, (x.announcedFront, x.announcedRear), x.front,
    x.rear, x.speed, x.motion.standing, x.motion.lastReport⟩

/-- Every slot's posture. -/
def P60.postures (s : P60) : Vector Posture 6 := s.slots.map Slot.posture

theorem postures_of_kept {s t : P60} (h : t.slotsKept = s.slotsKept) : t.postures = s.postures := by
  have e : ∀ u : P60, u.postures = u.slotsKept.map Slot.posture := by
    intro u
    simp only [P60.postures, P60.slotsKept, Vector.map_map]
    rfl
  rw [e, e, h]

theorem postures_updSlot (s : P60) (k : SlotId) (f : Slot → Slot) (h : ∀ x, (f x).posture = x.posture) :
    (s.updSlot k f).postures = s.postures := by
  refine Vector.ext ?_
  intro i hi
  simp only [P60.postures, Vector.getElem_map, P60.updSlot, P60.setSlot, Vector.getElem_set]
  split
  · rename_i e
    subst e
    exact h _
  · rfl

@[simp] theorem postures_updMotion (s : P60) (k : SlotId) (f : Motion → Motion)
    (h : ∀ m, (f m).standing = m.standing ∧ (f m).lastReport = m.lastReport) :
    (s.updMotion k f).postures = s.postures := postures_of_kept (kept_updMotion s k f h)

theorem postures_foldl {α : Type} (f : P60 → α → P60) (h : ∀ s a, (f s a).postures = s.postures)
    (l : List α) (s : P60) : (l.foldl f s).postures = s.postures := by
  induction l generalizing s with
  | nil => rfl
  | cons a l ih => rw [List.foldl_cons, ih, h]

/-! ## Through a command's end -/

@[simp] theorem postures_updSection (s : P60) (n : Nat) (f : SectionRec → SectionRec) :
    (s.updSection n f).postures = s.postures :=
  postures_of_kept (kept_updSection s n f)

@[simp] theorem postures_setOcc (s : P60) (n : Nat) (o : Occupancy) :
    (s.setOcc n o).postures = s.postures :=
  postures_of_kept (kept_setOcc s n o)

@[simp] theorem postures_updTurnout (s : P60) (t : Nat) (f : TurnoutRec → TurnoutRec) :
    (s.updTurnout t f).postures = s.postures :=
  postures_of_kept (kept_updTurnout s t f)

@[simp] theorem postures_updOrder (s : P60) (id : Nat) (f : Order → Order) :
    (s.updOrder id f).postures = s.postures :=
  postures_of_kept (kept_updOrder s id f)

@[simp] theorem postures_setOrderState (s : P60) (id : Nat) (st : OrderState) :
    (s.setOrderState id st).postures = s.postures :=
  postures_of_kept (kept_setOrderState s id st)

@[simp] theorem postures_updProgress (s : P60) (k : SlotId) (f : Progress → Progress) :
    (s.updProgress k f).postures = s.postures :=
  postures_of_kept (kept_updProgress s k f)

@[simp] theorem postures_updAuthority (s : P60) (k : SlotId) (f : Authority → Authority) :
    (s.updAuthority k f).postures = s.postures :=
  postures_of_kept (kept_updAuthority s k f)

@[simp] theorem postures_updTimer (s : P60) (k : SlotId) (f : PassageTimer → PassageTimer) :
    (s.updTimer k f).postures = s.postures :=
  postures_of_kept (kept_updTimer s k f)

@[simp] theorem postures_updDocking (s : P60) (k : SlotId) (f : Docking → Docking) :
    (s.updDocking k f).postures = s.postures :=
  postures_of_kept (kept_updDocking s k f)

@[simp] theorem postures_updStranger (s : P60) (i : Identity) (f : Stranger → Stranger) :
    (s.updStranger i f).postures = s.postures :=
  postures_of_kept (kept_updStranger s i f)

@[simp] theorem postures_dropStranger (s : P60) (i : Identity) : (s.dropStranger i).postures = s.postures :=
  postures_of_kept (kept_dropStranger s i)

@[simp] theorem postures_send (s : P60) (f : Frame) : (s.send f).postures = s.postures :=
  postures_of_kept (kept_send s f)

@[simp] theorem postures_raise (s : P60) (e : EventKind) : (s.raise e).postures = s.postures :=
  postures_of_kept (kept_raise s e)

@[simp] theorem postures_trigger (s : P60) : s.trigger.postures = s.postures :=
  postures_of_kept (kept_trigger s)

@[simp] theorem postures_oweCheck (s : P60) (n : Nat) : (s.oweCheck n).postures = s.postures :=
  postures_of_kept (kept_oweCheck s n)

@[simp] theorem postures_syncAttention (s : P60) : s.syncAttention.postures = s.postures :=
  postures_of_kept (kept_syncAttention s)

@[simp] theorem postures_sendOnce (s : P60) (i : Identity) (p : Peer) (m : PeerMsg) :
    (s.sendOnce i p m).postures = s.postures :=
  postures_of_kept (kept_sendOnce s i p m)

@[simp] theorem postures_hand (s : P60) (k : SlotId) (place : PlaceName) (m : PeerMsg) :
    (s.hand k place m).postures = s.postures :=
  postures_of_kept (kept_hand s k place m)

@[simp] theorem postures_command (s : P60) (a : Nat) (m : FieldMsg) :
    (s.command a m).postures = s.postures :=
  postures_of_kept (kept_command s a m)

@[simp] theorem postures_commandTo (s : P60) (kind : UnitKind) (n : Nat) (m : FieldMsg) :
    (s.commandTo kind n m).postures = s.postures :=
  postures_of_kept (kept_commandTo s kind n m)

@[simp] theorem postures_beginThrow (s : P60) (t : Nat) (x : Leg) (sl : ThrowSlot) :
    (s.beginThrow t x sl).postures = s.postures :=
  postures_of_kept (kept_beginThrow s t x sl)

@[simp] theorem postures_arbiterFrom (q : List (Nat × Leg)) (s : P60) :
    (P60.arbiterFrom q s).postures = s.postures :=
  postures_of_kept (kept_arbiterFrom q s)

@[simp] theorem postures_arbiter (s : P60) : s.arbiter.postures = s.postures :=
  postures_of_kept (kept_arbiter s)

@[simp] theorem postures_throwRequest (s : P60) (t : Nat) (x : Leg) :
    (s.throwRequest t x).1.postures = s.postures :=
  postures_of_kept (kept_throwRequest s t x)

@[simp] theorem postures_searchDeadlock (s : P60) (k : SlotId) :
    (s.searchDeadlock k).postures = s.postures :=
  postures_of_kept (kept_searchDeadlock s k)

@[simp] theorem postures_beginWait (s : P60) (k : SlotId) (n : Nat) (on : WaitOn) :
    (s.beginWait k n on).postures = s.postures :=
  postures_of_kept (kept_beginWait s k n on)

@[simp] theorem postures_recordWait (s : P60) (k : SlotId) (n : Nat) (on : WaitOn) :
    (s.recordWait k n on).postures = s.postures :=
  postures_of_kept (kept_recordWait s k n on)

@[simp] theorem postures_leaveQueue (s : P60) (k : SlotId) (n : Nat) :
    (s.leaveQueue k n).postures = s.postures :=
  postures_of_kept (kept_leaveQueue s k n)

@[simp] theorem postures_joinQueue (s : P60) (k : SlotId) (n : Nat) :
    (s.joinQueue k n).postures = s.postures :=
  postures_of_kept (kept_joinQueue s k n)

@[simp] theorem postures_withdrawWait (s : P60) (k : SlotId) : (s.withdrawWait k).postures = s.postures :=
  postures_of_kept (kept_withdrawWait s k)

@[simp] theorem postures_reviseWaits (s : P60) (n : Nat) (on : WaitOn) :
    (s.reviseWaits n on).postures = s.postures :=
  postures_of_kept (kept_reviseWaits s n on)

@[simp] theorem postures_grant (s : P60) (k : SlotId) (n : Nat) (entry : Side) (x : Option Leg) :
    (s.grant k n entry x).postures = s.postures :=
  postures_of_kept (kept_grant s k n entry x)

@[simp] theorem postures_askThrow (s : P60) (n : Nat) (x : Option Leg) :
    (s.askThrow n x).postures = s.postures :=
  postures_of_kept (kept_askThrow s n x)

@[simp] theorem postures_attempt (s : P60) (k : SlotId) (st : RouteStep) :
    (s.attempt k st).1.postures = s.postures :=
  postures_of_kept (kept_attempt s k st)

@[simp] theorem postures_releaseNow (s : P60) (n : Nat) : (s.releaseNow n).postures = s.postures :=
  postures_of_kept (kept_releaseNow s n)

@[simp] theorem postures_releaseRequest (s : P60) (n : Nat) (o : Owner) :
    (s.releaseRequest n o).postures = s.postures :=
  postures_of_kept (kept_releaseRequest s n o)

@[simp] theorem postures_releaseAll (s : P60) (l : List Nat) (o : Owner) :
    (s.releaseAll l o).postures = s.postures :=
  postures_of_kept (kept_releaseAll s l o)

@[simp] theorem postures_judgeTimer (s : P60) (k : SlotId) : (s.judgeTimer k).postures = s.postures :=
  postures_of_kept (kept_judgeTimer s k)

@[simp] theorem postures_loadTimer (s : P60) (k : SlotId) (o : Order) (j : Nat) :
    (s.loadTimer k o j).postures = s.postures :=
  postures_of_kept (kept_loadTimer s k o j)

@[simp] theorem postures_stopTimerSuspended (s : P60) (k : SlotId) :
    (s.stopTimerSuspended k).postures = s.postures :=
  postures_of_kept (kept_stopTimerSuspended s k)

@[simp] theorem postures_stopTimerFinished (s : P60) (k : SlotId) :
    (s.stopTimerFinished k).postures = s.postures :=
  postures_of_kept (kept_stopTimerFinished s k)

@[simp] theorem postures_setStatus (s : P60) (k : SlotId) (st : SlotState) :
    (s.setStatus k st).postures = s.postures :=
  postures_of_kept (kept_setStatus s k st)

@[simp] theorem postures_becomeIdle (s : P60) (k : SlotId) : (s.becomeIdle k).postures = s.postures :=
  postures_of_kept (kept_becomeIdle s k)

@[simp] theorem postures_setStage (s : P60) (k : SlotId) (g : Stage) (stop : Option Cause) :
    (s.setStage k g stop).postures = s.postures :=
  postures_of_kept (kept_setStage s k g stop)

@[simp] theorem postures_sendAuthority (s : P60) (k : SlotId) (e : Eoa) :
    (s.sendAuthority k e).postures = s.postures :=
  postures_of_kept (kept_sendAuthority s k e)

@[simp] theorem postures_sendBrake (s : P60) (k : SlotId) : (s.sendBrake k).postures = s.postures :=
  postures_of_kept (kept_sendBrake s k)

@[simp] theorem postures_dropAuthority (s : P60) (k : SlotId) : (s.dropAuthority k).postures = s.postures :=
  postures_of_kept (kept_dropAuthority s k)

@[simp] theorem postures_handEoa (s : P60) (k : SlotId) (e : Option Eoa) :
    (s.handEoa k e).postures = s.postures :=
  postures_of_kept (kept_handEoa s k e)

@[simp] theorem postures_brakeRequest (s : P60) (k : SlotId) : (s.brakeRequest k).postures = s.postures :=
  postures_of_kept (kept_brakeRequest s k)

@[simp] theorem postures_reissue (s : P60) (k : SlotId) : (s.reissue k).postures = s.postures :=
  postures_of_kept (kept_reissue s k)

@[simp] theorem postures_formEoa (s : P60) (k : SlotId) : (s.formEoa k).postures = s.postures :=
  postures_of_kept (kept_formEoa s k)

@[simp] theorem postures_lowerReach (s : P60) (k : SlotId) (j : Nat) :
    (s.lowerReach k j).postures = s.postures :=
  postures_of_kept (kept_lowerReach s k j)

@[simp] theorem postures_passFrom (k : SlotId) (o : Order) (j : Nat) (l : List RouteStep) (s : P60) :
    (P60.passFrom k o j l s).postures = s.postures :=
  postures_of_kept (kept_passFrom k o j l s)

@[simp] theorem postures_extendRun (s : P60) (k : SlotId) (o : Order) :
    (s.extendRun k o).postures = s.postures :=
  postures_of_kept (kept_extendRun s k o)

@[simp] theorem postures_stageAfterPass (s : P60) (k : SlotId) (g : Stage) (before : Nat) :
    (s.stageAfterPass k g before).postures = s.postures :=
  postures_of_kept (kept_stageAfterPass s k g before)

@[simp] theorem postures_pass (s : P60) (k : SlotId) : (s.pass k).postures = s.postures :=
  postures_of_kept (kept_pass s k)

@[simp] theorem postures_passEvent (s : P60) (k : SlotId) : (s.passEvent k).postures = s.postures :=
  postures_of_kept (kept_passEvent s k)

@[simp] theorem postures_keepOrReturn (s : P60) (k : SlotId) (n : Nat) :
    (s.keepOrReturn k n).postures = s.postures :=
  postures_of_kept (kept_keepOrReturn s k n)

@[simp] theorem postures_handOver (s : P60) (n : Nat) : (s.handOver n).postures = s.postures :=
  postures_of_kept (kept_handOver s n)

@[simp] theorem postures_releaseAheadNow (s : P60) (k : SlotId) :
    (s.releaseAheadNow k).postures = s.postures :=
  postures_of_kept (kept_releaseAheadNow s k)

@[simp] theorem postures_returnToIdle (s : P60) (k : SlotId) : (s.returnToIdle k).postures = s.postures :=
  postures_of_kept (kept_returnToIdle s k)

@[simp] theorem postures_payReturn (s : P60) (k : SlotId) : (s.payReturn k).postures = s.postures :=
  postures_of_kept (kept_payReturn s k)

@[simp] theorem postures_suspendNow (s : P60) (k : SlotId) (o : Order) (g : Stage) (c : Cause) :
    (s.suspendNow k o g c).postures = s.postures :=
  postures_of_kept (kept_suspendNow s k o g c)

@[simp] theorem postures_suspensionCause (s : P60) (k : SlotId) (c : Cause) :
    (s.suspensionCause k c).postures = s.postures :=
  postures_of_kept (kept_suspensionCause s k c)

@[simp] theorem postures_linkLost (s : P60) (k : SlotId) : (s.linkLost k).postures = s.postures :=
  postures_of_kept (kept_linkLost s k)

@[simp] theorem postures_suspendAll (s : P60) (c : Cause) : (s.suspendAll c).postures = s.postures :=
  postures_of_kept (kept_suspendAll s c)

@[simp] theorem postures_listFinish (s : P60) (id : Nat) (st : OrderState) :
    (s.listFinish id st).postures = s.postures :=
  postures_of_kept (kept_listFinish s id st)

@[simp] theorem postures_closeProgress (s : P60) (k : SlotId) : (s.closeProgress k).postures = s.postures :=
  postures_of_kept (kept_closeProgress s k)

@[simp] theorem postures_emptyAuthority (s : P60) (k : SlotId) :
    (s.emptyAuthority k).postures = s.postures :=
  postures_of_kept (kept_emptyAuthority s k)

@[simp] theorem postures_endOrder (s : P60) (k : SlotId) (wasActive : Bool) :
    (s.endOrder k wasActive).postures = s.postures :=
  postures_of_kept (kept_endOrder s k wasActive)

@[simp] theorem postures_finishOrder (s : P60) (o : Order) (st : OrderState) :
    (s.finishOrder o st).postures = s.postures :=
  postures_of_kept (kept_finishOrder s o st)

@[simp] theorem postures_finishLive (s : P60) (k : SlotId) (st : OrderState) :
    (s.finishLive k st).postures = s.postures :=
  postures_of_kept (kept_finishLive s k st)

@[simp] theorem postures_moveOn (s : P60) (k : SlotId) : (s.moveOn k).postures = s.postures :=
  postures_of_kept (kept_moveOn s k)

@[simp] theorem postures_overdue (s : P60) (k : SlotId) : (s.overdue k).postures = s.postures :=
  postures_of_kept (kept_overdue s k)

@[simp] theorem postures_takeStanding (s : P60) (k : SlotId) (o : Order) :
    (s.takeStanding k o).postures = s.postures :=
  postures_of_kept (kept_takeStanding s k o)

@[simp] theorem postures_firstPass (s : P60) (k : SlotId) : (s.firstPass k).postures = s.postures :=
  postures_of_kept (kept_firstPass s k)

@[simp] theorem postures_dispatch (s : P60) (o : Order) : (s.dispatch o).postures = s.postures :=
  postures_of_kept (kept_dispatch s o)

@[simp] theorem postures_judgeOrder (s : P60) (id : Nat) : (s.judgeOrder id).postures = s.postures :=
  postures_of_kept (kept_judgeOrder s id)

@[simp] theorem postures_beginScan (s : P60) : s.beginScan.postures = s.postures :=
  postures_of_kept (kept_beginScan s)

@[simp] theorem postures_takeTrigger (s : P60) : s.takeTrigger.postures = s.postures :=
  postures_of_kept (kept_takeTrigger s)

@[simp] theorem postures_drain (n : Nat) (s : P60) : (P60.drain n s).postures = s.postures :=
  postures_of_kept (kept_drain n s)

@[simp] theorem postures_handOvers (s : P60) : s.handOvers.postures = s.postures :=
  postures_of_kept (kept_handOvers s)

@[simp] theorem postures_pumpSlot (s : P60) (k : SlotId) : (s.pumpSlot k).postures = s.postures :=
  postures_of_kept (kept_pumpSlot s k)

@[simp] theorem postures_pumpStranger (s : P60) (i : Identity) : (s.pumpStranger i).postures = s.postures :=
  postures_of_kept (kept_pumpStranger s i)

@[simp] theorem postures_pumpAll (s : P60) : s.pumpAll.postures = s.postures :=
  postures_of_kept (kept_pumpAll s)

@[simp] theorem postures_settle (s : P60) : s.settle.postures = s.postures :=
  postures_of_kept (kept_settle s)

/-! ## Ops -/

@[simp] theorem postures_setLocation (s : P60) (t : Nat) (l : Location) :
    (s.setLocation t l).postures = s.postures := by
  rfl

@[simp] theorem postures_updUnit (s : P60) (a : Nat) (f : FieldUnit → FieldUnit) :
    (s.updUnit a f).postures = s.postures := by
  rfl

/-! ## Flags -/

@[simp] theorem postures_setDiscrepancy (s : P60) (n : Nat) :
    (s.setDiscrepancy n).postures = s.postures := by
  unfold P60.setDiscrepancy
  try dsimp only
  repeat' split
  all_goals first | (simp; done) | with_reducible rfl | (simp; rfl) | rfl | exact Eq.trans (postures_updSlot _ _ _ (by intro; rfl)) (by simp)

@[simp] theorem postures_setFault (s : P60) (k : SlotId) (c : FaultCause) :
    (s.setFault k c).postures = s.postures := by
  unfold P60.setFault
  try dsimp only
  repeat' split
  all_goals first | (simp; done) | with_reducible rfl | (simp; rfl) | rfl | exact Eq.trans (postures_updSlot _ _ _ (by intro; rfl)) (by simp)

@[simp] theorem postures_joinChangeSet (s : P60) (k : SlotId) :
    (s.joinChangeSet k).postures = s.postures := by
  unfold P60.joinChangeSet
  repeat' split
  all_goals rfl

/-! ## Reservation -/

@[simp] theorem postures_disturb (s : P60) (n : Nat) : (s.disturb n).postures = s.postures := by
  unfold P60.disturb
  try dsimp only
  repeat' split
  all_goals first | (simp; done) | with_reducible rfl | (simp; rfl) | rfl | exact Eq.trans (postures_updSlot _ _ _ (by intro; rfl)) (by simp)

@[simp] theorem postures_disturbOwned (s : P60) (n : Nat) : (s.disturbOwned n).postures = s.postures := by
  unfold P60.disturbOwned
  try dsimp only
  repeat' split
  all_goals first | (simp; done) | with_reducible rfl | (simp; rfl) | rfl | exact Eq.trans (postures_updSlot _ _ _ (by intro; rfl)) (by simp)

@[simp] theorem postures_becomeFree (s : P60) (n : Nat) : (s.becomeFree n).postures = s.postures := by
  unfold P60.becomeFree
  try dsimp only
  repeat' split
  all_goals first | (simp; done) | with_reducible rfl | (simp; rfl) | rfl | exact Eq.trans (postures_updSlot _ _ _ (by intro; rfl)) (by simp)

@[simp] theorem postures_oweFeederChecks (s : P60) (f : FeederId) :
    (s.oweFeederChecks f).postures = s.postures := by
  unfold P60.oweFeederChecks
  exact postures_foldl _ (by simp) _ _

@[simp] theorem postures_detection (s : P60) (n : Nat) : (s.detection n).postures = s.postures := by
  unfold P60.detection
  try dsimp only
  repeat' split
  all_goals first | (simp; done) | with_reducible rfl | (simp; rfl) | rfl | exact Eq.trans (postures_updSlot _ _ _ (by intro; rfl)) (by simp)

@[simp] theorem postures_detect (s : P60) (r : TurnoutRec) (x : Leg) :
    (s.detect r x).postures = s.postures := by
  unfold P60.detect
  try dsimp only
  repeat' split
  all_goals first | (simp; done) | with_reducible rfl | (simp; rfl) | rfl | exact Eq.trans (postures_updSlot _ _ _ (by intro; rfl)) (by simp)

@[simp] theorem postures_adoptOne (s : P60) (k : SlotId) (n : Nat) :
    (s.adoptOne k n).postures = s.postures := by
  unfold P60.adoptOne
  try dsimp only
  repeat' split
  all_goals first | (simp; done) | with_reducible rfl | (simp; rfl) | rfl | exact Eq.trans (postures_updSlot _ _ _ (by intro; rfl)) (by simp)

/-! ## Braking -/

@[simp] theorem postures_allStopRequest (s : P60) : s.allStopRequest.postures = s.postures := by
  unfold P60.allStopRequest
  refine Eq.trans (postures_foldl _ ?_ _ _) rfl
  intro s k
  exact postures_updSlot _ _ _ (by intro; rfl)

@[simp] theorem postures_intervene (s : P60) (k : SlotId) (o : Order) (g : Stage) (ev : Evaluation) :
    (s.intervene k o g ev).postures = s.postures := by
  unfold P60.intervene
  try dsimp only
  repeat' split
  all_goals first | (simp; done) | with_reducible rfl | (simp; rfl) | rfl | exact Eq.trans (postures_updSlot _ _ _ (by intro; rfl)) (by simp)

@[simp] theorem postures_updateCeiling (s : P60) (k : SlotId) :
    (s.updateCeiling k).postures = s.postures := by
  unfold P60.updateCeiling
  try dsimp only
  repeat' split
  all_goals first | (simp; done) | with_reducible rfl | (simp; rfl) | rfl | exact Eq.trans (postures_updSlot _ _ _ (by intro; rfl)) (by simp)

@[simp] theorem postures_unauthorised (s : P60) (k : SlotId) (rep : PositionReport) :
    (s.unauthorised k rep).postures = s.postures := by
  unfold P60.unauthorised
  try dsimp only
  repeat' split
  all_goals first | (simp; done) | with_reducible rfl | (simp; rfl) | rfl | exact Eq.trans (postures_updSlot _ _ _ (by intro; rfl)) (by simp)

@[simp] theorem postures_evaluate (s : P60) (k : SlotId) (rep : PositionReport) :
    (s.evaluate k rep).postures = s.postures := by
  unfold P60.evaluate
  try dsimp only
  repeat' split
  all_goals first | (simp; done) | with_reducible rfl | (simp; rfl) | rfl | exact Eq.trans (postures_updSlot _ _ _ (by intro; rfl)) (by simp)

@[simp] theorem postures_cutBack (s : P60) (k : SlotId) : (s.cutBack k).postures = s.postures := by
  unfold P60.cutBack
  try dsimp only
  repeat' split
  all_goals first | (simp; done) | with_reducible rfl | (simp; rfl) | rfl | exact Eq.trans (postures_updSlot _ _ _ (by intro; rfl)) (by simp)

/-! ## RouteSetter -/

@[simp] theorem postures_loseFromRun (s : P60) (k : SlotId) (n : Nat) :
    (s.loseFromRun k n).postures = s.postures := by
  unfold P60.loseFromRun
  try dsimp only
  repeat' split
  all_goals first | (simp; done) | with_reducible rfl | (simp; rfl) | rfl | exact Eq.trans (postures_updSlot _ _ _ (by intro; rfl)) (by simp)

@[simp] theorem postures_noteRear (s : P60) (k : SlotId) : (s.noteRear k).postures = s.postures := by
  unfold P60.noteRear
  try dsimp only
  repeat' split
  all_goals first | (simp; done) | with_reducible rfl | (simp; rfl) | rfl | exact Eq.trans (postures_updSlot _ _ _ (by intro; rfl)) (by simp)

@[simp] theorem postures_capture (s : P60) (k : SlotId) (o : Order) (j : Nat) :
    (s.capture k o j).postures = s.postures := by
  unfold P60.capture
  try dsimp only
  repeat' split
  all_goals first | (simp; done) | with_reducible rfl | (simp; rfl) | rfl | exact Eq.trans (postures_updSlot _ _ _ (by intro; rfl)) (by simp)

@[simp] theorem postures_sectionEntry (s : P60) (k : SlotId) (n : Nat) :
    (s.sectionEntry k n).postures = s.postures := by
  unfold P60.sectionEntry
  try dsimp only
  repeat' split
  all_goals first | (simp; done) | with_reducible rfl | (simp; rfl) | rfl | exact Eq.trans (postures_updSlot _ _ _ (by intro; rfl)) (by simp)

/-! ## Docking -/

@[simp] theorem postures_await (s : P60) (k : SlotId) (a : Awaiting) (limit : Nat) :
    (s.await k a limit).postures = s.postures := by
  unfold P60.await
  try dsimp only
  repeat' split
  all_goals first | (simp; done) | with_reducible rfl | (simp; rfl) | rfl | exact Eq.trans (postures_updSlot _ _ _ (by intro; rfl)) (by simp)

@[simp] theorem postures_sendPadUnlock (s : P60) (k : SlotId) :
    (s.sendPadUnlock k).postures = s.postures := by
  unfold P60.sendPadUnlock
  try dsimp only
  repeat' split
  all_goals first | (simp; done) | with_reducible rfl | (simp; rfl) | rfl | exact Eq.trans (postures_updSlot _ _ _ (by intro; rfl)) (by simp)

@[simp] theorem postures_sendLift (s : P60) (k : SlotId) : (s.sendLift k).postures = s.postures := by
  unfold P60.sendLift
  try dsimp only
  repeat' split
  all_goals first | (simp; done) | with_reducible rfl | (simp; rfl) | rfl | exact Eq.trans (postures_updSlot _ _ _ (by intro; rfl)) (by simp)

@[simp] theorem postures_sendLower (s : P60) (k : SlotId) : (s.sendLower k).postures = s.postures := by
  unfold P60.sendLower
  try dsimp only
  repeat' split
  all_goals first | (simp; done) | with_reducible rfl | (simp; rfl) | rfl | exact Eq.trans (postures_updSlot _ _ _ (by intro; rfl)) (by simp)

@[simp] theorem postures_sendPadLock (s : P60) (k : SlotId) : (s.sendPadLock k).postures = s.postures := by
  unfold P60.sendPadLock
  try dsimp only
  repeat' split
  all_goals first | (simp; done) | with_reducible rfl | (simp; rfl) | rfl | exact Eq.trans (postures_updSlot _ _ _ (by intro; rfl)) (by simp)

@[simp] theorem postures_withhold (s : P60) (k : SlotId) (g : Stage) (c : CommandDue) :
    (s.withhold k g c).postures = s.postures := by
  unfold P60.withhold
  try dsimp only
  repeat' split
  all_goals first | (simp; done) | with_reducible rfl | (simp; rfl) | rfl | exact Eq.trans (postures_updSlot _ _ _ (by intro; rfl)) (by simp)

@[simp] theorem postures_padUnlockOrWait (s : P60) (k : SlotId) :
    (s.padUnlockOrWait k).postures = s.postures := by
  unfold P60.padUnlockOrWait
  try dsimp only
  repeat' split
  all_goals first | (simp; done) | with_reducible rfl | (simp; rfl) | rfl | exact Eq.trans (postures_updSlot _ _ _ (by intro; rfl)) (by simp)

@[simp] theorem postures_padUnlockAgain (s : P60) (k : SlotId) :
    (s.padUnlockAgain k).postures = s.postures := by
  unfold P60.padUnlockAgain
  try dsimp only
  repeat' split
  all_goals first | (simp; done) | with_reducible rfl | (simp; rfl) | rfl | exact Eq.trans (postures_updSlot _ _ _ (by intro; rfl)) (by simp)

@[simp] theorem postures_liftOrWait (s : P60) (k : SlotId) : (s.liftOrWait k).postures = s.postures := by
  unfold P60.liftOrWait
  try dsimp only
  repeat' split
  all_goals first | (simp; done) | with_reducible rfl | (simp; rfl) | rfl | exact Eq.trans (postures_updSlot _ _ _ (by intro; rfl)) (by simp)

@[simp] theorem postures_lowerOrWait (s : P60) (k : SlotId) : (s.lowerOrWait k).postures = s.postures := by
  unfold P60.lowerOrWait
  try dsimp only
  repeat' split
  all_goals first | (simp; done) | with_reducible rfl | (simp; rfl) | rfl | exact Eq.trans (postures_updSlot _ _ _ (by intro; rfl)) (by simp)

@[simp] theorem postures_sendDue (s : P60) (k : SlotId) : (s.sendDue k).postures = s.postures := by
  unfold P60.sendDue
  try dsimp only
  repeat' split
  all_goals first | (simp; done) | with_reducible rfl | (simp; rfl) | rfl | exact Eq.trans (postures_updSlot _ _ _ (by intro; rfl)) (by simp)

@[simp] theorem postures_sendAllDue (s : P60) : s.sendAllDue.postures = s.postures := by
  unfold P60.sendAllDue
  refine postures_foldl _ ?_ _ _
  intro s k
  split <;> simp

@[simp] theorem postures_beginDocking (s : P60) (k : SlotId) (o : Order) :
    (s.beginDocking k o).postures = s.postures := by
  unfold P60.beginDocking
  try dsimp only
  repeat' split
  all_goals first | (simp; done) | with_reducible rfl | (simp; rfl) | rfl | exact Eq.trans (postures_updSlot _ _ _ (by intro; rfl)) (by simp)

@[simp] theorem postures_arrive (s : P60) (k : SlotId) (o : Order) :
    (s.arrive k o).postures = s.postures := by
  unfold P60.arrive
  try dsimp only
  repeat' split
  all_goals first | (simp; done) | with_reducible rfl | (simp; rfl) | rfl | exact Eq.trans (postures_updSlot _ _ _ (by intro; rfl)) (by simp)

@[simp] theorem postures_failTransporter (s : P60) (k : SlotId) :
    (s.failTransporter k).postures = s.postures := by
  unfold P60.failTransporter
  try dsimp only
  repeat' split
  all_goals first | (simp; done) | with_reducible rfl | (simp; rfl) | rfl | exact Eq.trans (postures_updSlot _ _ _ (by intro; rfl)) (by simp)

@[simp] theorem postures_displaced (s : P60) (k : SlotId) : (s.displaced k).postures = s.postures := by
  unfold P60.displaced
  try dsimp only
  repeat' split
  all_goals first | (simp; done) | with_reducible rfl | (simp; rfl) | rfl | exact Eq.trans (postures_updSlot _ _ _ (by intro; rfl)) (by simp)

@[simp] theorem postures_resumeStage (s : P60) (k : SlotId) (o : Order) (g : Stage) :
    (s.resumeStage k o g).postures = s.postures := by
  unfold P60.resumeStage
  try dsimp only
  repeat' split
  all_goals first | (simp; done) | with_reducible rfl | (simp; rfl) | rfl | exact Eq.trans (postures_updSlot _ _ _ (by intro; rfl)) (by simp)

@[simp] theorem postures_resumeDocking (s : P60) (k : SlotId) (o : Order) (g : Stage) :
    (s.resumeDocking k o g).postures = s.postures := by
  unfold P60.resumeDocking
  try dsimp only
  repeat' split
  all_goals first | (simp; done) | with_reducible rfl | (simp; rfl) | rfl | exact Eq.trans (postures_updSlot _ _ _ (by intro; rfl)) (by simp)

@[simp] theorem postures_updPad (s : P60) (n : Nat) (f : PadRec → PadRec) :
    (s.updPad n f).postures = s.postures := by
  rfl

@[simp] theorem postures_endStage (s : P60) (k : SlotId) : (s.endStage k).postures = s.postures := by
  unfold P60.endStage
  try dsimp only
  repeat' split
  all_goals first | (simp; done) | with_reducible rfl | (simp; rfl) | rfl | exact Eq.trans (postures_updSlot _ _ _ (by intro; rfl)) (by simp)

@[simp] theorem postures_clampActs (s : P60) (k : SlotId) (v : ClampValue) :
    (s.clampActs k v).postures = s.postures := by
  unfold P60.clampActs
  try dsimp only
  repeat' split
  all_goals first | (simp; done) | with_reducible rfl | (simp; rfl) | rfl | exact Eq.trans (postures_updSlot _ _ _ (by intro; rfl)) (by simp)

@[simp] theorem postures_clampReport (s : P60) (n : Nat) (v : ClampValue) :
    (s.clampReport n v).postures = s.postures := by
  unfold P60.clampReport
  try dsimp only
  repeat' split
  all_goals first | (simp; done) | with_reducible rfl | (simp; rfl) | rfl | exact Eq.trans (postures_updSlot _ _ _ (by intro; rfl)) (by simp)

@[simp] theorem postures_clampSilent (s : P60) (n : Nat) : (s.clampSilent n).postures = s.postures := by
  unfold P60.clampSilent
  try dsimp only
  repeat' split
  all_goals first | (simp; done) | with_reducible rfl | (simp; rfl) | rfl | exact Eq.trans (postures_updSlot _ _ _ (by intro; rfl)) (by simp)

@[simp] theorem postures_stageExpires (s : P60) (k : SlotId) :
    (s.stageExpires k).postures = s.postures := by
  unfold P60.stageExpires
  try dsimp only
  repeat' split
  all_goals first | (simp; done) | with_reducible rfl | (simp; rfl) | rfl | exact Eq.trans (postures_updSlot _ _ _ (by intro; rfl)) (by simp)

/-! ## Holds -/

@[simp] theorem postures_holdBegins (s : P60) (k : SlotId) : (s.holdBegins k).postures = s.postures := by
  unfold P60.holdBegins
  try dsimp only
  repeat' split
  all_goals first | (simp; done) | with_reducible rfl | (simp; rfl) | rfl | exact Eq.trans (postures_updSlot _ _ _ (by intro; rfl)) (by simp)

@[simp] theorem postures_windHoldActs (s : P60) (k : SlotId) (p : HoldPolicy) :
    (s.windHoldActs k p).postures = s.postures := by
  unfold P60.windHoldActs
  try dsimp only
  repeat' split
  all_goals first | (simp; done) | with_reducible rfl | (simp; rfl) | rfl | exact Eq.trans (postures_updSlot _ _ _ (by intro; rfl)) (by simp)

@[simp] theorem postures_holdEnds (s : P60) (k : SlotId) : (s.holdEnds k).postures = s.postures := by
  unfold P60.holdEnds
  try dsimp only
  repeat' split
  all_goals first | (simp; done) | with_reducible rfl | (simp; rfl) | rfl | exact Eq.trans (postures_updSlot _ _ _ (by intro; rfl)) (by simp)

@[simp] theorem postures_windChange (s : P60) (k : SlotId) (was now : Option HoldPolicy) :
    (s.windChange k was now).postures = s.postures := by
  unfold P60.windChange
  try dsimp only
  repeat' split
  all_goals first | (simp; done) | with_reducible rfl | (simp; rfl) | rfl | exact Eq.trans (postures_updSlot _ _ _ (by intro; rfl)) (by simp)

@[simp] theorem postures_rejudgeHold (s : P60) (k : SlotId) : (s.rejudgeHold k).postures = s.postures := by
  have e := postures_updSlot s k (fun x =>
    { x with windHold := s.windHoldNow k, held := s.holdNow k }) (by intro; rfl)
  unfold P60.rejudgeHold
  dsimp only
  repeat' split
  all_goals simp [e]

@[simp] theorem postures_rejudgeHolds (s : P60) : s.rejudgeHolds.postures = s.postures := by
  unfold P60.rejudgeHolds
  exact postures_foldl _ (by simp) _ _

@[simp] theorem postures_updFeeder (s : P60) (f : FeederId) (g : Feeder → Feeder) :
    (s.updFeeder f g).postures = s.postures := by
  rfl

@[simp] theorem postures_setFeederState (s : P60) (f : FeederId) (st : FeederState) :
    (s.setFeederState f st).postures = s.postures := by
  unfold P60.setFeederState
  try dsimp only
  repeat' split
  all_goals first | (simp; done) | with_reducible rfl | (simp; rfl) | rfl | exact Eq.trans (postures_updSlot _ _ _ (by intro; rfl)) (by simp)

@[simp] theorem postures_joinHeld (s : P60) (k : SlotId) (f : FeederId) :
    (s.joinHeld k f).postures = s.postures := by
  unfold P60.joinHeld
  try dsimp only
  repeat' split
  all_goals first | (simp; done) | with_reducible rfl | (simp; rfl) | rfl | exact Eq.trans (postures_updSlot _ _ _ (by intro; rfl)) (by simp)

@[simp] theorem postures_joinByOverlap (s : P60) (k : SlotId) (before : List Nat) :
    (s.joinByOverlap k before).postures = s.postures := by
  unfold P60.joinByOverlap
  refine postures_foldl _ ?_ _ _
  intro s f
  split <;> simp

@[simp] theorem postures_joinTripped (s : P60) (f : FeederId) :
    (s.joinTripped f).postures = s.postures := by
  unfold P60.joinTripped
  refine postures_foldl _ ?_ _ _
  intro s k
  split <;> simp

@[simp] theorem postures_emptyHeld (s : P60) (f : FeederId) : (s.emptyHeld f).postures = s.postures := by
  unfold P60.emptyHeld
  rw [postures_foldl _ (by simp)]
  rfl

@[simp] theorem postures_countTrip (s : P60) (f : FeederId) : (s.countTrip f).postures = s.postures := by
  unfold P60.countTrip
  try dsimp only
  repeat' split
  all_goals first | (simp; done) | with_reducible rfl | (simp; rfl) | rfl | exact Eq.trans (postures_updSlot _ _ _ (by intro; rfl)) (by simp)

@[simp] theorem postures_overcurrent (s : P60) (f : FeederId) :
    (s.overcurrent f).postures = s.postures := by
  unfold P60.overcurrent
  try dsimp only
  repeat' split
  all_goals first | (simp; done) | with_reducible rfl | (simp; rfl) | rfl | exact Eq.trans (postures_updSlot _ _ _ (by intro; rfl)) (by simp)

@[simp] theorem postures_overcurrentGone (s : P60) (f : FeederId) :
    (s.overcurrentGone f).postures = s.postures := by
  unfold P60.overcurrentGone
  try dsimp only
  repeat' split
  all_goals first | (simp; done) | with_reducible rfl | (simp; rfl) | rfl | exact Eq.trans (postures_updSlot _ _ _ (by intro; rfl)) (by simp)

@[simp] theorem postures_enableFeeder (s : P60) (f : FeederId) :
    (s.enableFeeder f).postures = s.postures := by
  unfold P60.enableFeeder
  try dsimp only
  repeat' split
  all_goals first | (simp; done) | with_reducible rfl | (simp; rfl) | rfl | exact Eq.trans (postures_updSlot _ _ _ (by intro; rfl)) (by simp)

@[simp] theorem postures_restoreExpires (s : P60) (f : FeederId) :
    (s.restoreExpires f).postures = s.postures := by
  unfold P60.restoreExpires
  try dsimp only
  repeat' split
  all_goals first | (simp; done) | with_reducible rfl | (simp; rfl) | rfl | exact Eq.trans (postures_updSlot _ _ _ (by intro; rfl)) (by simp)

@[simp] theorem postures_enterEstop (s : P60) : s.enterEstop.postures = s.postures := by
  unfold P60.enterEstop
  try dsimp only
  repeat' split
  all_goals first | (simp; done) | with_reducible rfl | (simp; rfl) | rfl | exact Eq.trans (postures_updSlot _ _ _ (by intro; rfl)) (by simp)

@[simp] theorem postures_leaveEstop (s : P60) : s.leaveEstop.postures = s.postures := by
  unfold P60.leaveEstop
  rw [postures_foldl]
  · rfl
  · intro s f
    split <;> simp

@[simp] theorem postures_silenceExpires (s : P60) : s.silenceExpires.postures = s.postures := by
  unfold P60.silenceExpires
  try dsimp only
  repeat' split
  all_goals first | (simp; done) | with_reducible rfl | (simp; rfl) | rfl | exact Eq.trans (postures_updSlot _ _ _ (by intro; rfl)) (by simp)

/-! ## Roster -/

theorem postures_adopt? {s t : P60} {k : SlotId} {f r : Nat} (h : s.adopt? k f r = some t) : t.postures = s.postures := by
  unfold P60.adopt? at h
  split at h
  · cases h
    refine Eq.trans (postures_updSlot _ _ _ (by intro; rfl)) ?_
    repeat' split
    all_goals simp
  · cases h

theorem postures_adoption {s t : P60} {k : SlotId} {f r : Nat} (h : s.adoption k f r = some t) :
    t.postures = s.postures := by
  unfold P60.adoption at h
  simp only [Option.map_eq_some_iff] at h
  obtain ⟨u, hu, rfl⟩ := h
  rw [← postures_adopt? hu, postures_joinByOverlap]
  have e := postures_updSlot u k (fun x => { x with status := u.statusByOrder k }) (by intro; rfl)
  split
  · exact e
  · exact e

@[simp] theorem postures_adoptAnnounced (s : P60) (k : SlotId) :
    (s.adoptAnnounced k).postures = s.postures := by
  unfold P60.adoptAnnounced
  split
  · rename_i h
    exact postures_adoption h
  · rw [postures_joinByOverlap]
    exact postures_updSlot _ _ _ (by intro; rfl)

@[simp] theorem postures_retryAdoption (s : P60) (k : SlotId) :
    (s.retryAdoption k).postures = s.postures := by
  unfold P60.retryAdoption
  dsimp only
  split
  · split
    · rename_i h
      rw [← postures_adoption h]
      split <;> simp
    · rfl
  · rfl

@[simp] theorem postures_reconcileLoad (s : P60) (k : SlotId) :
    (s.reconcileLoad k).postures = s.postures := by
  unfold P60.reconcileLoad
  try dsimp only
  repeat' split
  all_goals first | (simp; done) | with_reducible rfl | (simp; rfl) | rfl | exact Eq.trans (postures_updSlot _ _ _ (by intro; rfl)) (by simp)

@[simp] theorem postures_placeBind (s : P60) (k : SlotId) : (s.placeBind k).postures = s.postures := by
  unfold P60.placeBind
  try dsimp only
  repeat' split
  all_goals first | (simp; done) | with_reducible rfl | (simp; rfl) | rfl | exact Eq.trans (postures_updSlot _ _ _ (by intro; rfl)) (by simp)

@[simp] theorem postures_leaveHeldSets (s : P60) (k : SlotId) :
    (s.leaveHeldSets k).postures = s.postures := by
  unfold P60.leaveHeldSets
  exact postures_foldl _ (by simp) _ _

@[simp] theorem postures_failReleased (s : P60) (k : SlotId) :
    (s.failReleased k).postures = s.postures := by
  unfold P60.failReleased
  try dsimp only
  repeat' split
  all_goals first | (simp; done) | with_reducible rfl | (simp; rfl) | rfl | exact Eq.trans (postures_updSlot _ _ _ (by intro; rfl)) (by simp)

@[simp] theorem postures_rosterFault (s : P60) (k : SlotId) : (s.rosterFault k).postures = s.postures := by
  unfold P60.rosterFault
  try dsimp only
  repeat' split
  all_goals first | (simp; done) | with_reducible rfl | (simp; rfl) | rfl | exact Eq.trans (postures_updSlot _ _ _ (by intro; rfl)) (by simp)

@[simp] theorem postures_faultReport (s : P60) (k : SlotId) (code : Byte) :
    (s.faultReport k code).postures = s.postures := by
  have e := postures_updSlot s k (fun x => { x with lastFault := code }) (by intro; rfl)
  unfold P60.faultReport
  dsimp only
  repeat' split
  all_goals simp [e]

/-! ## Dispatcher -/

@[simp] theorem postures_endScan (s : P60) : s.endScan.postures = s.postures := by
  unfold P60.endScan
  try dsimp only
  repeat' split
  all_goals first | (simp; done) | with_reducible rfl | (simp; rfl) | rfl | exact Eq.trans (postures_updSlot _ _ _ (by intro; rfl)) (by simp)

@[simp] theorem postures_resumeSetting (s : P60) (k : SlotId) (o : Order) :
    (s.resumeSetting k o).postures = s.postures := by
  unfold P60.resumeSetting
  try dsimp only
  repeat' split
  all_goals first | (simp; done) | with_reducible rfl | (simp; rfl) | rfl | exact Eq.trans (postures_updSlot _ _ _ (by intro; rfl)) (by simp)

@[simp] theorem postures_resume (s : P60) (o : Order) (g : Stage) :
    (s.resume o g).postures = s.postures := by
  unfold P60.resume
  try dsimp only
  repeat' split
  all_goals first | (simp; done) | with_reducible rfl | (simp; rfl) | rfl | exact Eq.trans (postures_updSlot _ _ _ (by intro; rfl)) (by simp)

/-! ## PlanStore -/

@[simp] theorem postures_reloadInhibits (s : P60) : s.reloadInhibits.postures = s.postures := by
  rfl

/-! ## Sections -/

@[simp] theorem postures_setProving (s : P60) (n : Nat) (t : Option Nat) :
    (s.setProving n t).postures = s.postures := by
  unfold P60.setProving
  try dsimp only
  repeat' split
  all_goals first | (simp; done) | with_reducible rfl | (simp; rfl) | rfl | exact Eq.trans (postures_updSlot _ _ _ (by intro; rfl)) (by simp)

@[simp] theorem postures_autoRelease (s : P60) (k : SlotId) (n : Nat) :
    (s.autoRelease k n).postures = s.postures := by
  unfold P60.autoRelease
  try dsimp only
  repeat' split
  all_goals first | (simp; done) | with_reducible rfl | (simp; rfl) | rfl | exact Eq.trans (postures_updSlot _ _ _ (by intro; rfl)) (by simp)

@[simp] theorem postures_evaluateRelease (s : P60) (k : SlotId) (n : Nat) :
    (s.evaluateRelease k n).postures = s.postures := by
  unfold P60.evaluateRelease
  try dsimp only
  repeat' split
  all_goals first | (simp; done) | with_reducible rfl | (simp; rfl) | rfl | exact Eq.trans (postures_updSlot _ _ _ (by intro; rfl)) (by simp)

@[simp] theorem postures_confirmEntry (s : P60) (k : SlotId) :
    (s.confirmEntry k).postures = s.postures := by
  unfold P60.confirmEntry
  try dsimp only
  repeat' split
  all_goals first | (simp; done) | with_reducible rfl | (simp; rfl) | rfl | exact Eq.trans (postures_updSlot _ _ _ (by intro; rfl)) (by simp)

@[simp] theorem postures_tablePosition (s : P60) (k : SlotId) :
    (s.tablePosition k).postures = s.postures := by
  unfold P60.tablePosition
  rw [postures_foldl _ (by simp)]
  simp only [postures_noteRear, postures_confirmEntry]
  exact postures_updSlot _ _ _ (by intro; rfl)

@[simp] theorem postures_detectorOccupied (s : P60) (n : Nat) (occ : Occupancy) :
    (s.detectorOccupied n occ).postures = s.postures := by
  unfold P60.detectorOccupied
  try dsimp only
  repeat' split
  all_goals first | (simp; done) | with_reducible rfl | (simp; rfl) | rfl | exact Eq.trans (postures_updSlot _ _ _ (by intro; rfl)) (by simp)

@[simp] theorem postures_detectorClear (s : P60) (n : Nat) (occ : Occupancy) :
    (s.detectorClear n occ).postures = s.postures := by
  unfold P60.detectorClear
  try dsimp only
  repeat' split
  all_goals first | (simp; done) | with_reducible rfl | (simp; rfl) | rfl | exact Eq.trans (postures_updSlot _ _ _ (by intro; rfl)) (by simp)

@[simp] theorem postures_detectorReport (s : P60) (n : Nat) (v : DetectorValue) :
    (s.detectorReport n v).postures = s.postures := by
  unfold P60.detectorReport
  try dsimp only
  repeat' split
  all_goals first | (simp; done) | with_reducible rfl | (simp; rfl) | rfl | exact Eq.trans (postures_updSlot _ _ _ (by intro; rfl)) (by simp)

@[simp] theorem postures_detectorSilent (s : P60) (n : Nat) :
    (s.detectorSilent n).postures = s.postures := by
  unfold P60.detectorSilent
  try dsimp only
  repeat' split
  all_goals first | (simp; done) | with_reducible rfl | (simp; rfl) | rfl | exact Eq.trans (postures_updSlot _ _ _ (by intro; rfl)) (by simp)

@[simp] theorem postures_clearingExpires (s : P60) (n : Nat) :
    (s.clearingExpires n).postures = s.postures := by
  unfold P60.clearingExpires
  try dsimp only
  repeat' split
  all_goals first | (simp; done) | with_reducible rfl | (simp; rfl) | rfl | exact Eq.trans (postures_updSlot _ _ _ (by intro; rfl)) (by simp)

@[simp] theorem postures_confirmExpires (s : P60) (n : Nat) :
    (s.confirmExpires n).postures = s.postures := by
  unfold P60.confirmExpires
  try dsimp only
  repeat' split
  all_goals first | (simp; done) | with_reducible rfl | (simp; rfl) | rfl | exact Eq.trans (postures_updSlot _ _ _ (by intro; rfl)) (by simp)

@[simp] theorem postures_possess (s : P60) (n : Nat) : (s.possess n).postures = s.postures := by
  unfold P60.possess
  try dsimp only
  repeat' split
  all_goals first | (simp; done) | with_reducible rfl | (simp; rfl) | rfl | exact Eq.trans (postures_updSlot _ _ _ (by intro; rfl)) (by simp)

@[simp] theorem postures_setInhibit (s : P60) (n : Nat) (on : Bool) :
    (s.setInhibit n on).postures = s.postures := by
  unfold P60.setInhibit
  try dsimp only
  repeat' split
  all_goals first | (simp; done) | with_reducible rfl | (simp; rfl) | rfl | exact Eq.trans (postures_updSlot _ _ _ (by intro; rfl)) (by simp)

/-! ## Turnouts -/

@[simp] theorem postures_setTurnout (s : P60) (t : Nat) (st : TurnoutState) :
    (s.setTurnout t st).postures = s.postures := by
  rfl

@[simp] theorem postures_unrequested (s : P60) (r : TurnoutRec) :
    (s.unrequested r).postures = s.postures := by
  unfold P60.unrequested
  dsimp only
  split <;> simp [postures_foldl _ postures_brakeRequest]

@[simp] theorem postures_reportUnlocked (s : P60) (r : TurnoutRec) (v : TurnoutValue) :
    (s.reportUnlocked r v).postures = s.postures := by
  unfold P60.reportUnlocked
  try dsimp only
  repeat' split
  all_goals first | (simp; done) | with_reducible rfl | (simp; rfl) | rfl | exact Eq.trans (postures_updSlot _ _ _ (by intro; rfl)) (by simp)

@[simp] theorem postures_reportLocked (s : P60) (r : TurnoutRec) (v : TurnoutValue) :
    (s.reportLocked r v).postures = s.postures := by
  unfold P60.reportLocked
  try dsimp only
  repeat' split
  all_goals first | (simp; done) | with_reducible rfl | (simp; rfl) | rfl | exact Eq.trans (postures_updSlot _ _ _ (by intro; rfl)) (by simp)

@[simp] theorem postures_turnoutReport (s : P60) (t : Nat) (v : TurnoutValue) :
    (s.turnoutReport t v).postures = s.postures := by
  unfold P60.turnoutReport
  try dsimp only
  repeat' split
  all_goals first | (simp; done) | with_reducible rfl | (simp; rfl) | rfl | exact Eq.trans (postures_updSlot _ _ _ (by intro; rfl)) (by simp)

@[simp] theorem postures_turnoutSilent (s : P60) (t : Nat) : (s.turnoutSilent t).postures = s.postures := by
  unfold P60.turnoutSilent
  try dsimp only
  repeat' split
  all_goals first | (simp; done) | with_reducible rfl | (simp; rfl) | rfl | exact Eq.trans (postures_updSlot _ _ _ (by intro; rfl)) (by simp)

@[simp] theorem postures_throwExpires (s : P60) (t : Nat) : (s.throwExpires t).postures = s.postures := by
  unfold P60.throwExpires
  try dsimp only
  repeat' split
  all_goals first | (simp; done) | with_reducible rfl | (simp; rfl) | rfl | exact Eq.trans (postures_updSlot _ _ _ (by intro; rfl)) (by simp)

/-! ## Pads -/

@[simp] theorem postures_transfer (s : P60) (t : Nat) (l : Location) :
    (s.transfer t l).postures = s.postures := by
  unfold P60.transfer
  try dsimp only
  repeat' split
  all_goals first | (simp; done) | with_reducible rfl | (simp; rfl) | rfl | exact Eq.trans (postures_updSlot _ _ _ (by intro; rfl)) (by simp)

@[simp] theorem postures_toClamp (s : P60) (k : SlotId) (o : Order) :
    (s.toClamp k o).postures = s.postures := by
  unfold P60.toClamp
  try dsimp only
  repeat' split
  all_goals first | (simp; done) | with_reducible rfl | (simp; rfl) | rfl | exact Eq.trans (postures_updSlot _ _ _ (by intro; rfl)) (by simp)

/-! ## Positions -/

@[simp] theorem postures_atPad (s : P60) (k : SlotId) (o : Order) :
    (s.atPad k o).postures = s.postures := by
  unfold P60.atPad
  try dsimp only
  repeat' split
  all_goals first | (simp; done) | with_reducible rfl | (simp; rfl) | rfl | exact Eq.trans (postures_updSlot _ _ _ (by intro; rfl)) (by simp)

@[simp] theorem postures_creep (s : P60) (k : SlotId) : (s.creep k).postures = s.postures := by
  unfold P60.creep
  try dsimp only
  repeat' split
  all_goals first | (simp; done) | with_reducible rfl | (simp; rfl) | rfl | exact Eq.trans (postures_updSlot _ _ _ (by intro; rfl)) (by simp)

@[simp] theorem postures_judgeRunning (s : P60) (k : SlotId) (o : Order) (rep : PositionReport) :
    (s.judgeRunning k o rep).postures = s.postures := by
  unfold P60.judgeRunning
  try dsimp only
  repeat' split
  all_goals first | (simp; done) | with_reducible rfl | (simp; rfl) | rfl | exact Eq.trans (postures_updSlot _ _ _ (by intro; rfl)) (by simp)

@[simp] theorem postures_judgeStopping (s : P60) (k : SlotId) (o : Order) (stop : Option Cause) (rep : PositionReport) :
    (s.judgeStopping k o stop rep).postures = s.postures := by
  unfold P60.judgeStopping
  try dsimp only
  repeat' split
  all_goals first | (simp; done) | with_reducible rfl | (simp; rfl) | rfl | exact Eq.trans (postures_updSlot _ _ _ (by intro; rfl)) (by simp)

@[simp] theorem postures_judgeStandstill (s : P60) (k : SlotId) (rep : PositionReport) :
    (s.judgeStandstill k rep).postures = s.postures := by
  unfold P60.judgeStandstill
  try dsimp only
  repeat' split
  all_goals first | (simp; done) | with_reducible rfl | (simp; rfl) | rfl | exact Eq.trans (postures_updSlot _ _ _ (by intro; rfl)) (by simp)

@[simp] theorem postures_supervise (s : P60) (k : SlotId) (rep : PositionReport) :
    (s.supervise k rep).postures = s.postures := by
  unfold P60.supervise
  try dsimp only
  repeat' split
  all_goals first | (simp; done) | with_reducible rfl | (simp; rfl) | rfl | exact Eq.trans (postures_updSlot _ _ _ (by intro; rfl)) (by simp)

@[simp] theorem postures_judgeIf (s : P60) (k : SlotId) (rep : PositionReport) (still : Bool) :
    (s.judgeIf k rep still).postures = s.postures := by
  unfold P60.judgeIf
  try dsimp only
  repeat' split
  all_goals first | (simp; done) | with_reducible rfl | (simp; rfl) | rfl | exact Eq.trans (postures_updSlot _ _ _ (by intro; rfl)) (by simp)

@[simp] theorem postures_superviseAndPass (s : P60) (k : SlotId) (rep : PositionReport) (still : Bool) :
    (s.superviseAndPass k rep still).postures = s.postures := by
  unfold P60.superviseAndPass
  dsimp only
  repeat' split
  all_goals simp
  all_goals rfl

@[simp] theorem postures_payStandstill (s : P60) (k : SlotId) :
    (s.payStandstill k).postures = s.postures := by
  unfold P60.payStandstill
  try dsimp only
  repeat' split
  all_goals first | (simp; done) | with_reducible rfl | (simp; rfl) | rfl | exact Eq.trans (postures_updSlot _ _ _ (by intro; rfl)) (by simp)

/-! ## FieldLink -/

@[simp] theorem postures_noteTransmitted (s : P60) (n : Nat) (a : Awaiting) :
    (s.noteTransmitted n a).postures = s.postures := by
  unfold P60.noteTransmitted
  exact postures_foldl _ (by simp) _ _

@[simp] theorem postures_firstSending (s : P60) (a : Nat) (m : FieldMsg) :
    (s.firstSending a m).postures = s.postures := by
  unfold P60.firstSending
  try dsimp only
  repeat' split
  all_goals first | (simp; done) | with_reducible rfl | (simp; rfl) | rfl | exact Eq.trans (postures_updSlot _ _ _ (by intro; rfl)) (by simp)

@[simp] theorem postures_beginExchange (s : P60) (a : Nat) (m : FieldMsg) (sweep : Bool) :
    (s.beginExchange a m sweep).postures = s.postures := by
  unfold P60.beginExchange
  simp
  rfl

@[simp] theorem postures_sweepCheck (s : P60) : s.sweepCheck.postures = s.postures := by
  unfold P60.sweepCheck
  try dsimp only
  repeat' split
  all_goals first | (simp; done) | with_reducible rfl | (simp; rfl) | rfl | exact Eq.trans (postures_updSlot _ _ _ (by intro; rfl)) (by simp)

@[simp] theorem postures_endExchange (s : P60) (e : Exchange) :
    (s.endExchange e).postures = s.postures := by
  unfold P60.endExchange
  try dsimp only
  repeat' split
  all_goals first | (simp; done) | with_reducible rfl | (simp; rfl) | rfl | exact Eq.trans (postures_updSlot _ _ _ (by intro; rfl)) (by simp)

@[simp] theorem postures_tellSilent (s : P60) (u : FieldUnit) : (s.tellSilent u).postures = s.postures := by
  unfold P60.tellSilent
  try dsimp only
  repeat' split
  all_goals first | (simp; done) | with_reducible rfl | (simp; rfl) | rfl | exact Eq.trans (postures_updSlot _ _ _ (by intro; rfl)) (by simp)

@[simp] theorem postures_resendField (s : P60) (e : Exchange) :
    (s.resendField e).postures = s.postures := by
  unfold P60.resendField
  try dsimp only
  repeat' split
  all_goals first | (simp; done) | with_reducible rfl | (simp; rfl) | rfl | exact Eq.trans (postures_updSlot _ _ _ (by intro; rfl)) (by simp)

@[simp] theorem postures_fieldTimeout (s : P60) : s.fieldTimeout.postures = s.postures := by
  unfold P60.fieldTimeout
  try dsimp only
  repeat' split
  all_goals first | (simp; done) | with_reducible rfl | (simp; rfl) | rfl | exact Eq.trans (postures_updSlot _ _ _ (by intro; rfl)) (by simp)

/-! ## Transporters -/

@[simp] theorem postures_slotReplied (s : P60) (k : SlotId) : (s.slotReplied k).postures = s.postures := by
  unfold P60.slotReplied
  try dsimp only
  repeat' split
  all_goals first | (simp; done) | with_reducible rfl | (simp; rfl) | rfl | exact Eq.trans (postures_updSlot _ _ _ (by intro; rfl)) (by simp)

@[simp] theorem postures_strangerReplied (s : P60) (i : Identity) :
    (s.strangerReplied i).postures = s.postures := by
  unfold P60.strangerReplied
  try dsimp only
  repeat' split
  all_goals first | (simp; done) | with_reducible rfl | (simp; rfl) | rfl | exact Eq.trans (postures_updSlot _ _ _ (by intro; rfl)) (by simp)

@[simp] theorem postures_setPeer (s : P60) (i : Identity) (p : Peer) :
    (s.setPeer i p).postures = s.postures := by
  unfold P60.setPeer
  try dsimp only
  repeat' split
  all_goals first | (simp; done) | with_reducible rfl | (simp; rfl) | rfl | exact Eq.trans (postures_updSlot _ _ _ (by intro; rfl)) (by simp)

@[simp] theorem postures_noteResent (s : P60) (i : Identity) (m : PeerMsg) :
    (s.noteResent i m).postures = s.postures := by
  unfold P60.noteResent
  try dsimp only
  repeat' split
  all_goals first | (simp; done) | with_reducible rfl | (simp; rfl) | rfl | exact Eq.trans (postures_updSlot _ _ _ (by intro; rfl)) (by simp)

@[simp] theorem postures_deferralEnds (i : Identity) (place : PlaceName) (s : P60) :
    (P60.deferralEnds i place s).postures = s.postures := by
  unfold P60.deferralEnds
  try dsimp only
  repeat' split
  all_goals first | (simp; done) | with_reducible rfl | (simp; rfl) | rfl | exact Eq.trans (postures_updSlot _ _ _ (by intro; rfl)) (by simp)

@[simp] theorem postures_peerPollDue (i : Identity) (s : P60) :
    (P60.peerPollDue i s).postures = s.postures := by
  unfold P60.peerPollDue
  try dsimp only
  repeat' split
  all_goals first | (simp; done) | with_reducible rfl | (simp; rfl) | rfl | exact Eq.trans (postures_updSlot _ _ _ (by intro; rfl)) (by simp)

@[simp] theorem postures_repeatAllStop (s : P60) : s.repeatAllStop.postures = s.postures := by
  unfold P60.repeatAllStop
  try dsimp only
  repeat' split
  all_goals first | (simp; done) | with_reducible rfl | (simp; rfl) | rfl | exact Eq.trans (postures_updSlot _ _ _ (by intro; rfl)) (by simp)

end Sys2Proof.Machine
end

