-- ==== Sys2Proof/Laws/Rest.lean ====
section
/-! SUPPORT. What a command's end does when nothing is owed: the transporter link's turn and the attention
set's, and no more. -/

namespace Sys2Proof.Machine

/-- The state without what a turn of the transporter link may change. -/
def P60.bare (s : P60) : P60 :=
  { s with out := [], slots := Vector.replicate 6 .initial, strangers := [] }

theorem eq_of_bare {s t : P60} (h : t.bare = s.bare) :
    t = { s with out := t.out, slots := t.slots, strangers := t.strangers } :=
  calc
    t = { t.bare with out := t.out, slots := t.slots, strangers := t.strangers } := rfl
    _ = { s.bare with out := t.out, slots := t.slots, strangers := t.strangers } := by rw [h]
    _ = _ := rfl

/-- t is s after turns of the transporter link. -/
def P60.turned (s t : P60) : Prop :=
  t.bare = s.bare ∧ (∀ k, (t.slot k).unlinked = (s.slot k).unlinked) ∧
    t.strangers.map Stranger.unlinked = s.strangers.map Stranger.unlinked

theorem turned_refl (s : P60) : P60.turned s s := ⟨rfl, fun _ => rfl, rfl⟩

theorem turned_trans {s t u : P60} (h : s.turned t) (h' : t.turned u) : s.turned u :=
  ⟨h'.1.trans h.1, fun k => (h'.2.1 k).trans (h.2.1 k), h'.2.2.trans h.2.2⟩

theorem turned_foldl {α : Type} (f : P60 → α → P60) (h : ∀ s a, P60.turned s (f s a)) (l : List α)
    (s : P60) : s.turned (l.foldl f s) := by
  induction l generalizing s with
  | nil => exact turned_refl s
  | cons a l ih => exact turned_trans (h s a) (ih _)

theorem turned_send_updSlot (s : P60) (f : Frame) (k : SlotId) (g : Slot → Slot)
    (h : ∀ x, (g x).unlinked = x.unlinked) : s.turned ((s.send f).updSlot k g) := by
  refine ⟨rfl, ?_, rfl⟩
  intro j
  rw [slot_updSlot]
  split
  · exact h _
  · rfl

theorem turned_pumpSlot (s : P60) (k : SlotId) : s.turned (s.pumpSlot k) := by
  unfold P60.pumpSlot
  split
  · split
    · exact turned_refl s
    · refine turned_send_updSlot s _ k _ ?_
      intro x
      rfl
  · exact turned_refl s

theorem turned_send_updStranger (s : P60) (f : Frame) (i : Identity) (g : Stranger → Stranger)
    (h : ∀ x, (g x).unlinked = x.unlinked) : s.turned ((s.send f).updStranger i g) := by
  refine ⟨rfl, fun _ => rfl, ?_⟩
  rw [strangers_updStranger, List.map_map]
  refine List.map_congr_left ?_
  intro x _
  simp only [Function.comp]
  split
  · exact h x
  · rfl

theorem turned_pumpStranger (s : P60) (i : Identity) : s.turned (s.pumpStranger i) := by
  unfold P60.pumpStranger
  split
  · exact turned_refl s
  · split
    · exact turned_refl s
    · exact turned_send_updStranger s _ i _ (fun _ => rfl)

theorem turned_pumpAll (s : P60) : s.turned s.pumpAll :=
  turned_trans (turned_foldl _ turned_pumpSlot _ _) (turned_foldl _ turned_pumpStranger _ _)

/-- The link's turn changes nothing that a condition kind looks at. -/
theorem condsNow_of_turned {s t : P60} (h : s.turned t) : t.condsNow = s.condsNow := by
  have hs : ∀ p : Stranger → Bool, (∀ x, p x.unlinked = p x) →
      t.strangers.any p = s.strangers.any p := by
    intro p hp
    have e := congrArg (fun l => l.any p) h.2.2
    simpa [List.any_map, Function.comp_def, hp] using e
  unfold P60.condsNow
  congr 1
  funext c
  have e := eq_of_bare h.1
  cases c
  case unacceptedTransporter => exact hs _ (fun _ => rfl)
  case surplusTransporter => exact hs _ (fun _ => rfl)
  all_goals
    rw [e]
    rfl

theorem handOvers_of_none (s : P60) (h : s.tasks = []) : s.handOvers = s := by
  unfold P60.handOvers drainFuel
  rw [show (4096 : Nat) = 4095 + 1 from rfl]
  unfold P60.drain
  rw [h]

theorem takeTrigger_of_none (s : P60) (h : s.scanDue = false) : s.takeTrigger = s := by
  unfold P60.takeTrigger
  rw [h]
  rfl

/-- With no hand-over check owed and no scan trigger met, a command ends with the link's turn and the
attention set's. -/
theorem linksOnly_settle (s : P60) (h : s.tasks = []) (h' : s.scanDue = false) : s.linksOnly s.settle := by
  have t := turned_pumpAll s
  have c := condsNow_of_turned t
  have e : s.settle = s.pumpAll.syncAttention := by
    unfold P60.settle
    rw [handOvers_of_none s h, takeTrigger_of_none s h', handOvers_of_none s h]
  rw [e]
  refine ⟨?_, t.2.1, t.2.2, c, ?_⟩
  · calc
      s.pumpAll.syncAttention = { s.pumpAll.bare with
          out := s.pumpAll.syncAttention.out
          slots := s.pumpAll.syncAttention.slots
          strangers := s.pumpAll.syncAttention.strangers
          conds := s.pumpAll.syncAttention.conds
          opsTx := s.pumpAll.syncAttention.opsTx } := rfl
      _ = _ := by rw [t.1]; rfl
  · show s.pumpAll.opsTx ++ _ = _
    have b1 : s.pumpAll.opsTx = s.opsTx := (congrArg P60.opsTx t.1 :)
    have b2 : s.pumpAll.conds = s.conds := (congrArg P60.conds t.1 :)
    rw [c, b1, b2]

end Sys2Proof.Machine
end

