-- ==== Sys2Proof/Laws/Requests.lean ====
section
/-! SUPPORT. What a request does when its turn has come, and which of the machine's ends a rule's effect meets:
the lemmas by which the statements about requests are proved without opening the port. -/

namespace Sys2Proof.Machine

/-! ## The request's turn -/

/-- A request whose turn has come is served at the head of the queue (R193). -/
theorem requestTurn_of_turn (s : P60) (r : Request) (serve : P60 → P60) (ready : Bool)
    (h : s.restart = none ∧ (s.requests = [] ∨ s.requests.head? = some r)) (hl : r.payload.length ≤ 248)
    (hr : ready = true) :
    s.requestTurn r ready serve = serve { s with out := [], requests := r :: s.requests.tail } := by
  obtain ⟨h1, h2⟩ := h
  unfold P60.requestTurn maxPayload
  rw [if_neg (by omega), if_neg (by simp [h1]), hr]
  rcases h2 with h2 | h2
  · simp [h2, P60.quiet]
  · cases hq : s.requests with
    | nil => simp [hq] at h2
    | cons a l =>
      simp only [hq, List.head?_cons, Option.some.injEq] at h2
      subst h2
      simp only [if_true, P60.quiet, List.tail_cons]
      congr 1
      rw [← hq]

/-- A request's service when its turn has come: its rule acts on the P60 with the request at the queue's head,
the command's end follows, and then the reply. -/
theorem request_of_turn (s : P60) (r : Request) (f : Service) (h : s.turnOf r) (hl : r.payload.length ≤ 248)
    (hm : r.malformed = false) :
    request r f s =
      match f (s.withHead r) with
      | (t, some a) => t.settle.answer r a
      | (t, none) => t.settle := by
  unfold request
  rw [requestTurn_of_turn s r _ _ ⟨h.1, h.2.2⟩ hl (by simp [h.2.1])]
  simp only [P60.serveWith, hm, Bool.false_eq_true, if_false]
  rfl

/-- As `request_of_turn`, for a request that waits as a query does. -/
theorem requestAfterTransfer_of_turn (s : P60) (r : Request) (f : Service) (h : s.turnOf r)
    (ht : s.transferring = false) (hl : r.payload.length ≤ 248) (hm : r.malformed = false) :
    requestAfterTransfer r f s =
      match f (s.withHead r) with
      | (t, some a) => t.settle.answer r a
      | (t, none) => t.settle := by
  unfold requestAfterTransfer
  rw [requestTurn_of_turn s r _ _ ⟨h.1, h.2.2⟩ hl (by simp [h.2.1, ht])]
  simp only [P60.serveWith, hm, Bool.false_eq_true, if_false]
  rfl

/-- A query's reply when its turn has come: nothing else changes. -/
theorem query_of_turn (s : State) (r : Request) (f : P60 → Answer) (h : s.p60.turnOf r)
    (ht : s.p60.transferring = false) (hl : r.payload.length ≤ 248) (hm : r.malformed = false)
    (result : Result) (fields : List Byte)
    (hf : f { s.p60 with out := [], requests := r :: s.p60.requests.tail } = ⟨result, fields⟩) :
    run (query r f) s = .next (s.replied r result fields) := by
  unfold run query
  rw [requestTurn_of_turn s.p60 r _ _ ⟨h.1, h.2.2⟩ hl (by simp [h.2.1, ht])]
  simp only [hm, Bool.false_eq_true, if_false, hf]
  rfl

/-- A malformed request's refusal when its turn has come (R194). -/
theorem request_malformed (s : State) (r : Request) (f : Service) (h : s.p60.turnOf r)
    (hl : r.payload.length ≤ 248) (hm : r.malformed = true) :
    run (request r f) s = .next (s.replied r .malformed []) := by
  unfold run request
  rw [requestTurn_of_turn s.p60 r _ _ ⟨h.1, h.2.2⟩ hl (by simp [h.2.1])]
  simp only [P60.serveWith, hm, if_true]
  rfl

/-! ## Reading -/

/-- A request with a tag is the command its kind and payload spell (R194). -/
theorem readRequest_of_readKind {t k : Byte} {p : List Byte} {c : Instr} (ht : t ≠ 0)
    (hr : readKind t p k.toNat = some c) : readRequest ⟨t, k, p⟩ = c := by
  simp only [readRequest, ht, if_false, hr, Option.getD_some]

/-- Whether a request with a tag is malformed, by the command that its kind and payload spell. -/
theorem malformed_of_readKind {t k : Byte} {p : List Byte} {c : Instr} (ht : t ≠ 0)
    (hr : readKind t p k.toNat = some c) :
    Request.malformed ⟨t, k, p⟩ =
      match (generalizing := false) c with
      | .malformedRequest _ _ _ => true
      | .planRecord _ bytes => !recordLayout bytes
      | _ => false := by
  have h := readRequest_of_readKind ht hr
  cases c <;> simp only [Request.malformed, h]

/-! ## What requests name -/

/-- A section of the plan passes the checks of a request that names it (R37). -/
theorem onSection_of_has {s : P60} {n : Byte} {x : SectionRec} (r : Request) (h : s.hasSection n x)
    (f : SectionRec → P60 → P60 × Option Answer) : onSection n.toNat f (s.withHead r) = f x (s.withHead r) := by
  obtain ⟨h1, h2, h3, h4⟩ := h
  have e1 : (s.withHead r).plan? = s.plan? := rfl
  have e2 : (s.withHead r).section? n.toNat = s.section? n.toNat := rfl
  have hr : (s.withHead r).refuseSection n.toNat = none := by
    unfold P60.refuseSection
    rw [e1, e2, h4]
    cases hp : s.plan? <;> simp_all [inRange]
  unfold onSection
  rw [hr, e2, h4]

/-- A turnout of the plan passes the checks of a request that names it (R48). -/
theorem refuseTurnout_of_has {s : P60} {t : Byte} {x : TurnoutRec} (h : s.hasTurnout t x) :
    s.refuseTurnout t.toNat = none := by
  obtain ⟨h1, h2, h3, h4⟩ := h
  unfold P60.refuseTurnout
  rw [h4]
  cases hp : s.plan? <;> simp_all [inRange]

/-- A pad of the plan passes the checks of a request that names it (R153). -/
theorem refusePad_of_has {s : P60} {n : Byte} {x : PlanPad} (h : s.hasPad n x) : s.refusePad n.toNat = none := by
  obtain ⟨h1, h2, h3, h4⟩ := h
  unfold P60.refusePad
  rw [h4]
  cases hp : s.plan? <;> simp_all [inRange]

/-- A section of the plan passes the checks of a query that names it. -/
theorem refuseSection_of_has {s : P60} {n : Byte} {x : SectionRec} (h : s.hasSection n x) :
    s.refuseSection n.toNat = none := by
  obtain ⟨h1, h2, h3, h4⟩ := h
  unfold P60.refuseSection
  rw [h4]
  cases hp : s.plan? <;> simp_all [inRange]

/-! ## Outcomes -/

/-- A request accepted with nothing owed. -/
theorem serves_of (s : State) (c : Instr) (r : Request) (f : Service) (e : P60) (fields : List Byte)
    (hc : exec c s = run (request r f) s) (h : s.p60.turnOf r) (hl : r.payload.length ≤ 248)
    (hm : r.malformed = false) (hf : f (s.p60.withHead r) = (e, some ⟨.ok, fields⟩)) (ht : e.tasks = [])
    (hs : e.scanDue = false) : s.serves c r e fields :=
  ⟨e.settle, by rw [hc, run, request_of_turn _ _ _ h hl hm, hf], linksOnly_settle e ht hs⟩

/-- A request refused. -/
theorem refuses_of (s : State) (c : Instr) (r : Request) (f : Service) (result : Result) (fields : List Byte)
    (hc : exec c s = run (request r f) s) (h : s.p60.turnOf r) (hl : r.payload.length ≤ 248)
    (hm : r.malformed = false) (hf : f (s.p60.withHead r) = (s.p60.withHead r, some ⟨result, fields⟩)) :
    s.refuses c r result fields :=
  ⟨(s.p60.withHead r).settle, by rw [hc, run, request_of_turn _ _ _ h hl hm, hf],
    linksOnly_settle _ rfl rfl⟩

/-- A request accepted whose effect owes what the command's end makes. -/
theorem servesAndSettles_of (s : State) (c : Instr) (r : Request) (f : Service) (e : P60) (fields : List Byte)
    (hc : exec c s = run (request r f) s) (h : s.p60.turnOf r) (hl : r.payload.length ≤ 248)
    (hm : r.malformed = false) (hf : f (s.p60.withHead r) = (e, some ⟨.ok, fields⟩)) :
    s.servesAndSettles c r e fields := by
  unfold State.servesAndSettles
  rw [hc, run, request_of_turn _ _ _ h hl hm, hf]

/-- A request whose reply waits for a write. -/
theorem takesAndSettles_of (s : State) (c : Instr) (r : Request) (f : Service) (e : P60)
    (hc : exec c s = run (request r f) s) (h : s.p60.turnOf r) (hl : r.payload.length ≤ 248)
    (hm : r.malformed = false) (hf : f (s.p60.withHead r) = (e, none)) : s.takesAndSettles c e := by
  unfold State.takesAndSettles
  rw [hc, run, request_of_turn _ _ _ h hl hm, hf]

/-- What settles with nothing owed only gives the links and the attention set their turns. -/
theorem takes_of_settles (s : State) (c : Instr) (e : P60) (h : s.takesAndSettles c e) (ht : e.tasks = [])
    (hs : e.scanDue = false) : s.takes c e :=
  ⟨e.settle, h, linksOnly_settle e ht hs⟩

/-- A timer's end, in the time the timer has left (log 2). -/
theorem takesAndSettles_expiry (s : State) (c : Instr) (left : P60 → Option Nat) (fire : P60 → P60) (n : Nat)
    (hc : exec c s = run (fun p => expiry (left p) fire p) s) (hl : left s.p60 = some n) :
    s.takesAndSettles c (fire (s.p60.advance n).begun) := by
  unfold State.takesAndSettles
  rw [hc, run, hl]
  rfl

end Sys2Proof.Machine
end

