-- ==== Sys2Proof/Laws/Sizes.lean ====
section
/-! SUPPORT. What no operation but a request's arrival and reply, an announcement or an edit changes: the
request queue, the strangers listed, the sections' numbers, and how many orders, turnouts and pads there are. -/

namespace Sys2Proof.Machine

/-- The request queue, a RESTART's progress, the strangers' identities, the sections' numbers, and how many orders,
turnouts and pads there are. -/
def P60.sizes (s : P60) : List Request × Option RestartPhase × List Identity × List Nat × Nat × Nat × Nat :=
  (s.requests, s.restart, s.strangers.map (·.ident), s.sections.map (·.num), s.orders.length, s.turnouts.length,
    s.pads.length)

/-! ## Base updates -/

@[simp] theorem sizes_setSlot (s : P60) (k : SlotId) (x : Slot) : (s.setSlot k x).sizes = s.sizes := rfl

@[simp] theorem sizes_updSlot (s : P60) (k : SlotId) (f : Slot → Slot) :
    (s.updSlot k f).sizes = s.sizes := rfl

theorem nums_updSection (l : List SectionRec) (n : Nat) (f : SectionRec → SectionRec)
    (h : ∀ r, (f r).num = r.num) :
    (l.map (fun r => if r.num = n then f r else r)).map (·.num) = l.map (·.num) := by
  rw [List.map_map]
  refine List.map_congr_left ?_
  intro r _
  simp only [Function.comp]
  split
  · exact h r
  · rfl

/-- A section's record keeps its number, and so the table its numbers. -/
@[simp] theorem sizes_updSection (s : P60) (n : Nat) (f : SectionRec → SectionRec) (h : ∀ r, (f r).num = r.num) :
    (s.updSection n f).sizes = s.sizes := by
  simp only [P60.sizes, P60.updSection, nums_updSection s.sections n f h]

@[simp] theorem sizes_setOcc (s : P60) (n : Nat) (o : Occupancy) : (s.setOcc n o).sizes = s.sizes := by
  simp [P60.setOcc]

@[simp] theorem sizes_updTurnout (s : P60) (t : Nat) (f : TurnoutRec → TurnoutRec) :
    (s.updTurnout t f).sizes = s.sizes := by simp [P60.sizes]

@[simp] theorem sizes_updOrder (s : P60) (id : Nat) (f : Order → Order) :
    (s.updOrder id f).sizes = s.sizes := by simp [P60.sizes]

@[simp] theorem sizes_setOrderState (s : P60) (id : Nat) (st : OrderState) :
    (s.setOrderState id st).sizes = s.sizes := by
  simp [P60.setOrderState]

@[simp] theorem sizes_updProgress (s : P60) (k : SlotId) (f : Progress → Progress) :
    (s.updProgress k f).sizes = s.sizes := rfl

@[simp] theorem sizes_updAuthority (s : P60) (k : SlotId) (f : Authority → Authority) :
    (s.updAuthority k f).sizes = s.sizes := rfl

@[simp] theorem sizes_updMotion (s : P60) (k : SlotId) (f : Motion → Motion) :
    (s.updMotion k f).sizes = s.sizes := rfl

@[simp] theorem sizes_updTimer (s : P60) (k : SlotId) (f : PassageTimer → PassageTimer) :
    (s.updTimer k f).sizes = s.sizes := rfl

@[simp] theorem sizes_updDocking (s : P60) (k : SlotId) (f : Docking → Docking) :
    (s.updDocking k f).sizes = s.sizes := rfl

theorem idents_updStranger (l : List Stranger) (i : Identity) (f : Stranger → Stranger)
    (h : ∀ x, (f x).ident = x.ident) :
    (l.map (fun x => if x.ident = i then f x else x)).map (·.ident) = l.map (·.ident) := by
  rw [List.map_map]
  refine List.map_congr_left ?_
  intro x _
  simp only [Function.comp]
  split
  · exact h x
  · rfl

theorem sizes_updStranger (s : P60) (i : Identity) (f : Stranger → Stranger)
    (h : ∀ x, (f x).ident = x.ident) : (s.updStranger i f).sizes = s.sizes := by
  simp only [P60.sizes, P60.updStranger, idents_updStranger s.strangers i f h]

@[simp] theorem sizes_send (s : P60) (f : Frame) : (s.send f).sizes = s.sizes := rfl

@[simp] theorem sizes_raise (s : P60) (e : EventKind) : (s.raise e).sizes = s.sizes := rfl

@[simp] theorem sizes_trigger (s : P60) : s.trigger.sizes = s.sizes := rfl

@[simp] theorem sizes_oweCheck (s : P60) (n : Nat) : (s.oweCheck n).sizes = s.sizes := rfl

@[simp] theorem sizes_syncAttention (s : P60) : s.syncAttention.sizes = s.sizes := rfl

@[simp] theorem sizes_sendOnce (s : P60) (i : Identity) (p : Peer) (m : PeerMsg) :
    (s.sendOnce i p m).sizes = s.sizes := rfl

theorem sizes_foldl {α : Type} (f : P60 → α → P60) (h : ∀ s a, (f s a).sizes = s.sizes) (l : List α)
    (s : P60) : (l.foldl f s).sizes = s.sizes := by
  induction l generalizing s with
  | nil => rfl
  | cons a l ih => rw [List.foldl_cons, ih, h]

/-! ## Links -/

@[simp] theorem sizes_hand (s : P60) (k : SlotId) (place : PlaceName) (m : PeerMsg) :
    (s.hand k place m).sizes = s.sizes := by
  unfold P60.hand
  repeat' split
  all_goals simp

@[simp] theorem sizes_command (s : P60) (a : Nat) (m : FieldMsg) : (s.command a m).sizes = s.sizes := by
  unfold P60.command
  repeat' split
  all_goals rfl

@[simp] theorem sizes_commandTo (s : P60) (kind : UnitKind) (n : Nat) (m : FieldMsg) :
    (s.commandTo kind n m).sizes = s.sizes := by
  unfold P60.commandTo
  split <;> simp

/-! ## Throws -/

@[simp] theorem sizes_beginThrow (s : P60) (t : Nat) (x : Leg) (sl : ThrowSlot) :
    (s.beginThrow t x sl).sizes = s.sizes := by simp [P60.beginThrow]

@[simp] theorem sizes_arbiterFrom (q : List (Nat × Leg)) (s : P60) :
    (P60.arbiterFrom q s).sizes = s.sizes := by
  induction q generalizing s with
  | nil => rfl
  | cons e q ih =>
    unfold P60.arbiterFrom
    repeat' split
    all_goals first | rfl | simp [ih]

@[simp] theorem sizes_arbiter (s : P60) : s.arbiter.sizes = s.sizes := by simp [P60.arbiter]

@[simp] theorem sizes_throwRequest (s : P60) (t : Nat) (x : Leg) :
    (s.throwRequest t x).1.sizes = s.sizes := by
  unfold P60.throwRequest
  repeat' split
  all_goals first | rfl | (simp; rfl)

/-! ## Waits -/

@[simp] theorem sizes_searchDeadlock (s : P60) (k : SlotId) : (s.searchDeadlock k).sizes = s.sizes := by
  unfold P60.searchDeadlock
  split
  · rfl
  · simp; rfl

@[simp] theorem sizes_beginWait (s : P60) (k : SlotId) (n : Nat) (on : WaitOn) :
    (s.beginWait k n on).sizes = s.sizes := by
  unfold P60.beginWait
  cases on <;> simp

@[simp] theorem sizes_recordWait (s : P60) (k : SlotId) (n : Nat) (on : WaitOn) :
    (s.recordWait k n on).sizes = s.sizes := by
  unfold P60.recordWait
  repeat' split
  all_goals simp

@[simp] theorem sizes_leaveQueue (s : P60) (k : SlotId) (n : Nat) :
    (s.leaveQueue k n).sizes = s.sizes := by
  unfold P60.leaveQueue
  repeat' (first | split | simp)

@[simp] theorem sizes_joinQueue (s : P60) (k : SlotId) (n : Nat) :
    (s.joinQueue k n).sizes = s.sizes := by
  unfold P60.joinQueue
  repeat' split
  all_goals simp

@[simp] theorem sizes_withdrawWait (s : P60) (k : SlotId) : (s.withdrawWait k).sizes = s.sizes := by
  unfold P60.withdrawWait
  simp only [sizes_updProgress]
  split <;> simp

@[simp] theorem sizes_reviseWaits (s : P60) (n : Nat) (on : WaitOn) :
    (s.reviseWaits n on).sizes = s.sizes := by
  unfold P60.reviseWaits
  split
  · rfl
  · exact sizes_foldl _ (by simp) _ _

/-! ## Reservation -/

@[simp] theorem sizes_grant (s : P60) (k : SlotId) (n : Nat) (entry : Side) (x : Option Leg) :
    (s.grant k n entry x).sizes = s.sizes := by simp [P60.grant]

@[simp] theorem sizes_askThrow (s : P60) (n : Nat) (x : Option Leg) :
    (s.askThrow n x).sizes = s.sizes := by
  unfold P60.askThrow
  split <;> simp

@[simp] theorem sizes_attempt (s : P60) (k : SlotId) (st : RouteStep) :
    (s.attempt k st).1.sizes = s.sizes := by
  unfold P60.attempt
  repeat' split
  all_goals simp
  split <;> simp

@[simp] theorem sizes_releaseNow (s : P60) (n : Nat) : (s.releaseNow n).sizes = s.sizes := by
  simp [P60.releaseNow]

@[simp] theorem sizes_releaseRequest (s : P60) (n : Nat) (o : Owner) :
    (s.releaseRequest n o).sizes = s.sizes := by
  unfold P60.releaseRequest
  repeat' split
  all_goals simp

@[simp] theorem sizes_releaseAll (s : P60) (l : List Nat) (o : Owner) :
    (s.releaseAll l o).sizes = s.sizes := by
  unfold P60.releaseAll
  exact sizes_foldl _ (by simp) _ _

/-! ## Stages and timers -/

@[simp] theorem sizes_judgeTimer (s : P60) (k : SlotId) : (s.judgeTimer k).sizes = s.sizes := by
  unfold P60.judgeTimer
  split <;> simp

@[simp] theorem sizes_loadTimer (s : P60) (k : SlotId) (o : Order) (j : Nat) :
    (s.loadTimer k o j).sizes = s.sizes := by
  unfold P60.loadTimer
  split <;> simp

@[simp] theorem sizes_stopTimerSuspended (s : P60) (k : SlotId) :
    (s.stopTimerSuspended k).sizes = s.sizes := rfl

@[simp] theorem sizes_stopTimerFinished (s : P60) (k : SlotId) :
    (s.stopTimerFinished k).sizes = s.sizes := rfl

@[simp] theorem sizes_setStatus (s : P60) (k : SlotId) (st : SlotState) :
    (s.setStatus k st).sizes = s.sizes := rfl

@[simp] theorem sizes_becomeIdle (s : P60) (k : SlotId) : (s.becomeIdle k).sizes = s.sizes := by
  unfold P60.becomeIdle
  dsimp only
  split <;> simp

@[simp] theorem sizes_setStage (s : P60) (k : SlotId) (g : Stage) (stop : Option Cause) :
    (s.setStage k g stop).sizes = s.sizes := by
  unfold P60.setStage
  split
  · rfl
  · simp only [sizes_judgeTimer, sizes_updSlot]
    split <;> simp

/-! ## Authority and the route setter -/

@[simp] theorem sizes_sendAuthority (s : P60) (k : SlotId) (e : Eoa) :
    (s.sendAuthority k e).sizes = s.sizes := by simp [P60.sendAuthority]

@[simp] theorem sizes_sendBrake (s : P60) (k : SlotId) : (s.sendBrake k).sizes = s.sizes := by
  simp [P60.sendBrake]

@[simp] theorem sizes_dropAuthority (s : P60) (k : SlotId) : (s.dropAuthority k).sizes = s.sizes := rfl

@[simp] theorem sizes_handEoa (s : P60) (k : SlotId) (e : Option Eoa) :
    (s.handEoa k e).sizes = s.sizes := by
  unfold P60.handEoa
  split <;> simp

@[simp] theorem sizes_brakeRequest (s : P60) (k : SlotId) : (s.brakeRequest k).sizes = s.sizes := by
  unfold P60.brakeRequest
  dsimp only
  split <;> simp

@[simp] theorem sizes_reissue (s : P60) (k : SlotId) : (s.reissue k).sizes = s.sizes := by
  unfold P60.reissue
  split <;> simp

@[simp] theorem sizes_formEoa (s : P60) (k : SlotId) : (s.formEoa k).sizes = s.sizes := by
  unfold P60.formEoa
  split
  · rfl
  · dsimp only
    split <;> simp

@[simp] theorem sizes_lowerReach (s : P60) (k : SlotId) (j : Nat) :
    (s.lowerReach k j).sizes = s.sizes := by simp [P60.lowerReach]

@[simp] theorem sizes_passFrom (k : SlotId) (o : Order) (j : Nat) (l : List RouteStep) (s : P60) :
    (P60.passFrom k o j l s).sizes = s.sizes := by
  induction l generalizing s j with
  | nil => rfl
  | cons st rest ih =>
    unfold P60.passFrom
    have h := sizes_attempt s k st
    split
    · rfl
    · split <;> rename_i e <;> rw [e] at h <;> simpa [ih] using h

@[simp] theorem sizes_extendRun (s : P60) (k : SlotId) (o : Order) :
    (s.extendRun k o).sizes = s.sizes := by
  unfold P60.extendRun
  dsimp only
  repeat' split
  all_goals first | rfl | simp

@[simp] theorem sizes_stageAfterPass (s : P60) (k : SlotId) (g : Stage) (before : Nat) :
    (s.stageAfterPass k g before).sizes = s.sizes := by
  unfold P60.stageAfterPass
  dsimp only
  repeat' split
  all_goals simp

@[simp] theorem sizes_pass (s : P60) (k : SlotId) : (s.pass k).sizes = s.sizes := by
  unfold P60.pass
  split <;> simp

@[simp] theorem sizes_passEvent (s : P60) (k : SlotId) : (s.passEvent k).sizes = s.sizes := by
  unfold P60.passEvent
  split <;> simp

@[simp] theorem sizes_keepOrReturn (s : P60) (k : SlotId) (n : Nat) :
    (s.keepOrReturn k n).sizes = s.sizes := by
  unfold P60.keepOrReturn
  repeat' split
  all_goals simp

@[simp] theorem sizes_handOver (s : P60) (n : Nat) : (s.handOver n).sizes = s.sizes := by
  unfold P60.handOver
  repeat' split
  all_goals try simp
  split <;> simp

/-! ## Finishing and suspending -/

@[simp] theorem sizes_releaseAheadNow (s : P60) (k : SlotId) : (s.releaseAheadNow k).sizes = s.sizes := by
  unfold P60.releaseAheadNow
  split <;> simp

@[simp] theorem sizes_giveBack (s : P60) (k : SlotId) (kept : List Nat) :
    (s.giveBack k kept).sizes = s.sizes := by
  unfold P60.giveBack
  simp only [sizes_releaseAll]
  rw [sizes_foldl _ (by simp)]
  simp

@[simp] theorem sizes_returnToIdle (s : P60) (k : SlotId) :
    (s.returnToIdle k).sizes = s.sizes := by
  simp [P60.returnToIdle]

@[simp] theorem sizes_payReturn (s : P60) (k : SlotId) :
    (s.payReturn k).sizes = s.sizes := by
  unfold P60.payReturn
  split <;> simp

@[simp] theorem sizes_suspendNow (s : P60) (k : SlotId) (o : Order) (g : Stage) (c : Cause) :
    (s.suspendNow k o g c).sizes = s.sizes := by
  unfold P60.suspendNow
  dsimp only
  split <;> simp

@[simp] theorem sizes_suspensionCause (s : P60) (k : SlotId) (c : Cause) :
    (s.suspensionCause k c).sizes = s.sizes := by
  unfold P60.suspensionCause
  repeat' split
  all_goals simp

@[simp] theorem sizes_linkLost (s : P60) (k : SlotId) : (s.linkLost k).sizes = s.sizes := by
  unfold P60.linkLost
  split <;> simp

@[simp] theorem sizes_suspendAll (s : P60) (c : Cause) : (s.suspendAll c).sizes = s.sizes := by
  unfold P60.suspendAll
  exact sizes_foldl _ (by simp) _ _

@[simp] theorem sizes_listFinish (s : P60) (id : Nat) (st : OrderState) :
    (s.listFinish id st).sizes = s.sizes := by simp [P60.listFinish]

@[simp] theorem sizes_closeProgress (s : P60) (k : SlotId) : (s.closeProgress k).sizes = s.sizes := by
  simp [P60.closeProgress]

@[simp] theorem sizes_emptyAuthority (s : P60) (k : SlotId) : (s.emptyAuthority k).sizes = s.sizes := by
  unfold P60.emptyAuthority
  split <;> simp

@[simp] theorem sizes_endOrder (s : P60) (k : SlotId) (wasActive : Bool) :
    (s.endOrder k wasActive).sizes = s.sizes := by
  unfold P60.endOrder
  dsimp only
  repeat' split
  all_goals simp

@[simp] theorem sizes_finishOrder (s : P60) (o : Order) (st : OrderState) :
    (s.finishOrder o st).sizes = s.sizes := by
  unfold P60.finishOrder
  split <;> simp

@[simp] theorem sizes_finishLive (s : P60) (k : SlotId) (st : OrderState) :
    (s.finishLive k st).sizes = s.sizes := by
  unfold P60.finishLive
  split <;> simp

@[simp] theorem sizes_moveOn (s : P60) (k : SlotId) : (s.moveOn k).sizes = s.sizes := by
  unfold P60.moveOn
  dsimp only
  split <;> simp

@[simp] theorem sizes_overdue (s : P60) (k : SlotId) : (s.overdue k).sizes = s.sizes := by
  simp [P60.overdue]

/-! ## The scan -/

@[simp] theorem sizes_takeStanding (s : P60) (k : SlotId) (o : Order) :
    (s.takeStanding k o).sizes = s.sizes := by
  unfold P60.takeStanding
  refine sizes_foldl _ ?_ _ _
  intro s n
  split <;> simp

@[simp] theorem sizes_noteRear (s : P60) (k : SlotId) : (s.noteRear k).sizes = s.sizes := by
  unfold P60.noteRear
  try dsimp only
  repeat' split
  all_goals first | (simp; done) | with_reducible rfl | (simp; rfl) | rfl

@[simp] theorem sizes_firstPass (s : P60) (k : SlotId) : (s.firstPass k).sizes = s.sizes := by
  unfold P60.firstPass
  split <;> simp

@[simp] theorem sizes_dispatch (s : P60) (o : Order) : (s.dispatch o).sizes = s.sizes := by
  unfold P60.dispatch
  dsimp only
  split <;> simp

@[simp] theorem sizes_judgeOrder (s : P60) (id : Nat) : (s.judgeOrder id).sizes = s.sizes := by
  unfold P60.judgeOrder
  repeat' split
  all_goals simp

@[simp] theorem sizes_beginScan (s : P60) : s.beginScan.sizes = s.sizes := by
  have h := sizes_foldl P60.judgeOrder (by simp) (s.orders.map (·.id))
    { s with scanning := true, scanDue := false }
  exact h

@[simp] theorem sizes_takeTrigger (s : P60) : s.takeTrigger.sizes = s.sizes := by
  unfold P60.takeTrigger
  repeat' split
  · rfl
  · simp
  · rfl

/-! ## The end of a command -/

@[simp] theorem sizes_drain (n : Nat) (s : P60) : (P60.drain n s).sizes = s.sizes := by
  induction n generalizing s with
  | zero => rfl
  | succ n ih =>
    unfold P60.drain
    split
    · rfl
    · rw [ih, sizes_handOver]
      rfl

@[simp] theorem sizes_handOvers (s : P60) : s.handOvers.sizes = s.sizes := sizes_drain _ _

@[simp] theorem sizes_pumpSlot (s : P60) (k : SlotId) : (s.pumpSlot k).sizes = s.sizes := by
  unfold P60.pumpSlot
  repeat' split
  all_goals simp

@[simp] theorem sizes_pumpStranger (s : P60) (i : Identity) : (s.pumpStranger i).sizes = s.sizes := by
  unfold P60.pumpStranger
  repeat' split
  all_goals first | rfl | exact sizes_updStranger _ _ _ (fun _ => rfl)

@[simp] theorem sizes_pumpAll (s : P60) : s.pumpAll.sizes = s.sizes := by
  unfold P60.pumpAll
  rw [sizes_foldl _ (by simp), sizes_foldl _ (by simp)]

/-- A command's end leaves the sizes. -/
@[simp] theorem sizes_settle (s : P60) : s.settle.sizes = s.sizes := by simp [P60.settle]

end Sys2Proof.Machine
end

