-- ==== Sys2Proof/Laws/SizesOfRules.lean ====
section
/-! SUPPORT. The sizes, through every operation that a command's rule is made of (the announcement's and the
stranger's drop apart). -/

namespace Sys2Proof.Machine

/-! ## Ops -/

@[simp] theorem sizes_setLocation (s : P60) (t : Nat) (l : Location) :
    (s.setLocation t l).sizes = s.sizes := by
  rfl

@[simp] theorem sizes_updUnit (s : P60) (a : Nat) (f : FieldUnit → FieldUnit) :
    (s.updUnit a f).sizes = s.sizes := by
  rfl

/-! ## Flags -/

@[simp] theorem sizes_setDiscrepancy (s : P60) (n : Nat) :
    (s.setDiscrepancy n).sizes = s.sizes := by
  unfold P60.setDiscrepancy
  try dsimp only
  repeat' split
  all_goals first | (simp; done) | with_reducible rfl | (simp; rfl) | rfl

@[simp] theorem sizes_setFault (s : P60) (k : SlotId) (c : FaultCause) :
    (s.setFault k c).sizes = s.sizes := by
  unfold P60.setFault
  try dsimp only
  repeat' split
  all_goals first | (simp; done) | with_reducible rfl | (simp; rfl) | rfl

@[simp] theorem sizes_joinChangeSet (s : P60) (k : SlotId) :
    (s.joinChangeSet k).sizes = s.sizes := by
  unfold P60.joinChangeSet
  repeat' split
  all_goals rfl

/-! ## Reservation -/

@[simp] theorem sizes_disturb (s : P60) (n : Nat) : (s.disturb n).sizes = s.sizes := by
  unfold P60.disturb
  try dsimp only
  repeat' split
  all_goals first | (simp; done) | with_reducible rfl | (simp; rfl) | rfl

@[simp] theorem sizes_disturbOwned (s : P60) (n : Nat) : (s.disturbOwned n).sizes = s.sizes := by
  unfold P60.disturbOwned
  try dsimp only
  repeat' split
  all_goals first | (simp; done) | with_reducible rfl | (simp; rfl) | rfl

@[simp] theorem sizes_becomeFree (s : P60) (n : Nat) : (s.becomeFree n).sizes = s.sizes := by
  unfold P60.becomeFree
  try dsimp only
  repeat' split
  all_goals first | (simp; done) | with_reducible rfl | (simp; rfl) | rfl

@[simp] theorem sizes_oweFeederChecks (s : P60) (f : FeederId) :
    (s.oweFeederChecks f).sizes = s.sizes := by
  unfold P60.oweFeederChecks
  exact sizes_foldl _ (by simp) _ _

@[simp] theorem sizes_detection (s : P60) (n : Nat) : (s.detection n).sizes = s.sizes := by
  unfold P60.detection
  try dsimp only
  repeat' split
  all_goals first | (simp; done) | with_reducible rfl | (simp; rfl) | rfl

@[simp] theorem sizes_detect (s : P60) (r : TurnoutRec) (x : Leg) :
    (s.detect r x).sizes = s.sizes := by
  unfold P60.detect
  try dsimp only
  repeat' split
  all_goals first | (simp; done) | with_reducible rfl | (simp; rfl) | rfl

@[simp] theorem sizes_adoptOne (s : P60) (k : SlotId) (n : Nat) :
    (s.adoptOne k n).sizes = s.sizes := by
  unfold P60.adoptOne
  try dsimp only
  repeat' split
  all_goals first | (simp; done) | with_reducible rfl | (simp; rfl) | rfl

/-! ## Braking -/

@[simp] theorem sizes_allStopRequest (s : P60) : s.allStopRequest.sizes = s.sizes := by
  unfold P60.allStopRequest
  rw [sizes_foldl _ (by simp)]
  rfl

@[simp] theorem sizes_intervene (s : P60) (k : SlotId) (o : Order) (g : Stage) (ev : Evaluation) :
    (s.intervene k o g ev).sizes = s.sizes := by
  unfold P60.intervene
  try dsimp only
  repeat' split
  all_goals first | (simp; done) | with_reducible rfl | (simp; rfl) | rfl

@[simp] theorem sizes_updateCeiling (s : P60) (k : SlotId) :
    (s.updateCeiling k).sizes = s.sizes := by
  unfold P60.updateCeiling
  try dsimp only
  repeat' split
  all_goals first | (simp; done) | with_reducible rfl | (simp; rfl) | rfl

@[simp] theorem sizes_unauthorised (s : P60) (k : SlotId) (rep : PositionReport) :
    (s.unauthorised k rep).sizes = s.sizes := by
  unfold P60.unauthorised
  try dsimp only
  repeat' split
  all_goals first | (simp; done) | with_reducible rfl | (simp; rfl) | rfl

@[simp] theorem sizes_evaluate (s : P60) (k : SlotId) (rep : PositionReport) :
    (s.evaluate k rep).sizes = s.sizes := by
  unfold P60.evaluate
  try dsimp only
  repeat' split
  all_goals first | (simp; done) | with_reducible rfl | (simp; rfl) | rfl

@[simp] theorem sizes_cutBack (s : P60) (k : SlotId) : (s.cutBack k).sizes = s.sizes := by
  unfold P60.cutBack
  try dsimp only
  repeat' split
  all_goals first | (simp; done) | with_reducible rfl | (simp; rfl) | rfl

/-! ## RouteSetter -/

@[simp] theorem sizes_loseFromRun (s : P60) (k : SlotId) (n : Nat) :
    (s.loseFromRun k n).sizes = s.sizes := by
  unfold P60.loseFromRun
  try dsimp only
  repeat' split
  all_goals first | (simp; done) | with_reducible rfl | (simp; rfl) | rfl

@[simp] theorem sizes_capture (s : P60) (k : SlotId) (o : Order) (j : Nat) :
    (s.capture k o j).sizes = s.sizes := by
  unfold P60.capture
  try dsimp only
  repeat' split
  all_goals first | (simp; done) | with_reducible rfl | (simp; rfl) | rfl

@[simp] theorem sizes_sectionEntry (s : P60) (k : SlotId) (n : Nat) :
    (s.sectionEntry k n).sizes = s.sizes := by
  unfold P60.sectionEntry
  try dsimp only
  repeat' split
  all_goals first | (simp; done) | with_reducible rfl | (simp; rfl) | rfl

/-! ## Docking -/

@[simp] theorem sizes_await (s : P60) (k : SlotId) (a : Awaiting) (limit : Nat) :
    (s.await k a limit).sizes = s.sizes := by
  unfold P60.await
  try dsimp only
  repeat' split
  all_goals first | (simp; done) | with_reducible rfl | (simp; rfl) | rfl

@[simp] theorem sizes_sendPadUnlock (s : P60) (k : SlotId) :
    (s.sendPadUnlock k).sizes = s.sizes := by
  unfold P60.sendPadUnlock
  try dsimp only
  repeat' split
  all_goals first | (simp; done) | with_reducible rfl | (simp; rfl) | rfl

@[simp] theorem sizes_sendLift (s : P60) (k : SlotId) : (s.sendLift k).sizes = s.sizes := by
  unfold P60.sendLift
  try dsimp only
  repeat' split
  all_goals first | (simp; done) | with_reducible rfl | (simp; rfl) | rfl

@[simp] theorem sizes_sendLower (s : P60) (k : SlotId) : (s.sendLower k).sizes = s.sizes := by
  unfold P60.sendLower
  try dsimp only
  repeat' split
  all_goals first | (simp; done) | with_reducible rfl | (simp; rfl) | rfl

@[simp] theorem sizes_sendPadLock (s : P60) (k : SlotId) : (s.sendPadLock k).sizes = s.sizes := by
  unfold P60.sendPadLock
  try dsimp only
  repeat' split
  all_goals first | (simp; done) | with_reducible rfl | (simp; rfl) | rfl

@[simp] theorem sizes_withhold (s : P60) (k : SlotId) (g : Stage) (c : CommandDue) :
    (s.withhold k g c).sizes = s.sizes := by
  unfold P60.withhold
  try dsimp only
  repeat' split
  all_goals first | (simp; done) | with_reducible rfl | (simp; rfl) | rfl

@[simp] theorem sizes_padUnlockOrWait (s : P60) (k : SlotId) :
    (s.padUnlockOrWait k).sizes = s.sizes := by
  unfold P60.padUnlockOrWait
  try dsimp only
  repeat' split
  all_goals first | (simp; done) | with_reducible rfl | (simp; rfl) | rfl

@[simp] theorem sizes_padUnlockAgain (s : P60) (k : SlotId) :
    (s.padUnlockAgain k).sizes = s.sizes := by
  unfold P60.padUnlockAgain
  try dsimp only
  repeat' split
  all_goals first | (simp; done) | with_reducible rfl | (simp; rfl) | rfl

@[simp] theorem sizes_liftOrWait (s : P60) (k : SlotId) : (s.liftOrWait k).sizes = s.sizes := by
  unfold P60.liftOrWait
  try dsimp only
  repeat' split
  all_goals first | (simp; done) | with_reducible rfl | (simp; rfl) | rfl

@[simp] theorem sizes_lowerOrWait (s : P60) (k : SlotId) : (s.lowerOrWait k).sizes = s.sizes := by
  unfold P60.lowerOrWait
  try dsimp only
  repeat' split
  all_goals first | (simp; done) | with_reducible rfl | (simp; rfl) | rfl

@[simp] theorem sizes_sendDue (s : P60) (k : SlotId) : (s.sendDue k).sizes = s.sizes := by
  unfold P60.sendDue
  try dsimp only
  repeat' split
  all_goals first | (simp; done) | with_reducible rfl | (simp; rfl) | rfl

@[simp] theorem sizes_sendAllDue (s : P60) : s.sendAllDue.sizes = s.sizes := by
  unfold P60.sendAllDue
  refine sizes_foldl _ ?_ _ _
  intro s k
  split <;> simp

@[simp] theorem sizes_beginDocking (s : P60) (k : SlotId) (o : Order) :
    (s.beginDocking k o).sizes = s.sizes := by
  unfold P60.beginDocking
  try dsimp only
  repeat' split
  all_goals first | (simp; done) | with_reducible rfl | (simp; rfl) | rfl

@[simp] theorem sizes_arrive (s : P60) (k : SlotId) (o : Order) :
    (s.arrive k o).sizes = s.sizes := by
  unfold P60.arrive
  try dsimp only
  repeat' split
  all_goals first | (simp; done) | with_reducible rfl | (simp; rfl) | rfl

@[simp] theorem sizes_failTransporter (s : P60) (k : SlotId) :
    (s.failTransporter k).sizes = s.sizes := by
  unfold P60.failTransporter
  try dsimp only
  repeat' split
  all_goals first | (simp; done) | with_reducible rfl | (simp; rfl) | rfl

@[simp] theorem sizes_displaced (s : P60) (k : SlotId) : (s.displaced k).sizes = s.sizes := by
  unfold P60.displaced
  try dsimp only
  repeat' split
  all_goals first | (simp; done) | with_reducible rfl | (simp; rfl) | rfl

@[simp] theorem sizes_resumeStage (s : P60) (k : SlotId) (o : Order) (g : Stage) :
    (s.resumeStage k o g).sizes = s.sizes := by
  unfold P60.resumeStage
  try dsimp only
  repeat' split
  all_goals first | (simp; done) | with_reducible rfl | (simp; rfl) | rfl

@[simp] theorem sizes_resumeDocking (s : P60) (k : SlotId) (o : Order) (g : Stage) :
    (s.resumeDocking k o g).sizes = s.sizes := by
  unfold P60.resumeDocking
  try dsimp only
  repeat' split
  all_goals first | (simp; done) | with_reducible rfl | (simp; rfl) | rfl

@[simp] theorem sizes_updPad (s : P60) (n : Nat) (f : PadRec → PadRec) :
    (s.updPad n f).sizes = s.sizes := by
  simp [P60.sizes]

@[simp] theorem sizes_endStage (s : P60) (k : SlotId) : (s.endStage k).sizes = s.sizes := by
  unfold P60.endStage
  try dsimp only
  repeat' split
  all_goals first | (simp; done) | with_reducible rfl | (simp; rfl) | rfl

@[simp] theorem sizes_clampActs (s : P60) (k : SlotId) (v : ClampValue) :
    (s.clampActs k v).sizes = s.sizes := by
  unfold P60.clampActs
  try dsimp only
  repeat' split
  all_goals first | (simp; done) | with_reducible rfl | (simp; rfl) | rfl

@[simp] theorem sizes_clampReport (s : P60) (n : Nat) (v : ClampValue) :
    (s.clampReport n v).sizes = s.sizes := by
  unfold P60.clampReport
  try dsimp only
  repeat' split
  all_goals first | (simp; done) | with_reducible rfl | (simp; rfl) | rfl

@[simp] theorem sizes_clampSilent (s : P60) (n : Nat) : (s.clampSilent n).sizes = s.sizes := by
  unfold P60.clampSilent
  try dsimp only
  repeat' split
  all_goals first | (simp; done) | with_reducible rfl | (simp; rfl) | rfl

@[simp] theorem sizes_stageExpires (s : P60) (k : SlotId) : (s.stageExpires k).sizes = s.sizes := by
  unfold P60.stageExpires
  try dsimp only
  repeat' split
  all_goals first | (simp; done) | with_reducible rfl | (simp; rfl) | rfl

@[simp] theorem sizes_setLoad (s : P60) (k : SlotId) (present : Bool) :
    (s.setLoad k present).sizes = s.sizes := by
  unfold P60.setLoad
  try dsimp only
  repeat' split
  all_goals first | (simp; done) | with_reducible rfl | (simp; rfl) | rfl

@[simp] theorem sizes_unawaited (s : P60) (k : SlotId) (present : Bool) :
    (s.unawaited k present).sizes = s.sizes := by
  unfold P60.unawaited
  try dsimp only
  repeat' split
  all_goals first | (simp; done) | with_reducible rfl | (simp; rfl) | rfl

@[simp] theorem sizes_liftedReport (s : P60) (k : SlotId) : (s.liftedReport k).sizes = s.sizes := by
  unfold P60.liftedReport
  try dsimp only
  repeat' split
  all_goals first | (simp; done) | with_reducible rfl | (simp; rfl) | rfl

@[simp] theorem sizes_loweredReport (s : P60) (k : SlotId) :
    (s.loweredReport k).sizes = s.sizes := by
  unfold P60.loweredReport
  try dsimp only
  repeat' split
  all_goals first | (simp; done) | with_reducible rfl | (simp; rfl) | rfl

/-! ## Holds -/

@[simp] theorem sizes_holdBegins (s : P60) (k : SlotId) : (s.holdBegins k).sizes = s.sizes := by
  unfold P60.holdBegins
  try dsimp only
  repeat' split
  all_goals first | (simp; done) | with_reducible rfl | (simp; rfl) | rfl

@[simp] theorem sizes_windHoldActs (s : P60) (k : SlotId) (p : HoldPolicy) :
    (s.windHoldActs k p).sizes = s.sizes := by
  unfold P60.windHoldActs
  try dsimp only
  repeat' split
  all_goals first | (simp; done) | with_reducible rfl | (simp; rfl) | rfl

@[simp] theorem sizes_holdEnds (s : P60) (k : SlotId) : (s.holdEnds k).sizes = s.sizes := by
  unfold P60.holdEnds
  try dsimp only
  repeat' split
  all_goals first | (simp; done) | with_reducible rfl | (simp; rfl) | rfl

@[simp] theorem sizes_windChange (s : P60) (k : SlotId) (was now : Option HoldPolicy) :
    (s.windChange k was now).sizes = s.sizes := by
  unfold P60.windChange
  try dsimp only
  repeat' split
  all_goals first | (simp; done) | with_reducible rfl | (simp; rfl) | rfl

@[simp] theorem sizes_rejudgeHold (s : P60) (k : SlotId) : (s.rejudgeHold k).sizes = s.sizes := by
  unfold P60.rejudgeHold
  try dsimp only
  repeat' split
  all_goals first | (simp; done) | with_reducible rfl | (simp; rfl) | rfl

@[simp] theorem sizes_rejudgeHolds (s : P60) : s.rejudgeHolds.sizes = s.sizes := by
  unfold P60.rejudgeHolds
  exact sizes_foldl _ (by simp) _ _

@[simp] theorem sizes_updFeeder (s : P60) (f : FeederId) (g : Feeder → Feeder) :
    (s.updFeeder f g).sizes = s.sizes := by
  rfl

@[simp] theorem sizes_setFeederState (s : P60) (f : FeederId) (st : FeederState) :
    (s.setFeederState f st).sizes = s.sizes := by
  unfold P60.setFeederState
  try dsimp only
  repeat' split
  all_goals first | (simp; done) | with_reducible rfl | (simp; rfl) | rfl

@[simp] theorem sizes_joinHeld (s : P60) (k : SlotId) (f : FeederId) :
    (s.joinHeld k f).sizes = s.sizes := by
  unfold P60.joinHeld
  try dsimp only
  repeat' split
  all_goals first | (simp; done) | with_reducible rfl | (simp; rfl) | rfl

@[simp] theorem sizes_joinByOverlap (s : P60) (k : SlotId) (before : List Nat) :
    (s.joinByOverlap k before).sizes = s.sizes := by
  unfold P60.joinByOverlap
  refine sizes_foldl _ ?_ _ _
  intro s f
  split <;> simp

@[simp] theorem sizes_joinTripped (s : P60) (f : FeederId) : (s.joinTripped f).sizes = s.sizes := by
  unfold P60.joinTripped
  refine sizes_foldl _ ?_ _ _
  intro s k
  split <;> simp

@[simp] theorem sizes_emptyHeld (s : P60) (f : FeederId) : (s.emptyHeld f).sizes = s.sizes := by
  unfold P60.emptyHeld
  rw [sizes_foldl _ (by simp)]
  rfl

@[simp] theorem sizes_countTrip (s : P60) (f : FeederId) : (s.countTrip f).sizes = s.sizes := by
  unfold P60.countTrip
  try dsimp only
  repeat' split
  all_goals first | (simp; done) | with_reducible rfl | (simp; rfl) | rfl

@[simp] theorem sizes_overcurrent (s : P60) (f : FeederId) : (s.overcurrent f).sizes = s.sizes := by
  unfold P60.overcurrent
  try dsimp only
  repeat' split
  all_goals first | (simp; done) | with_reducible rfl | (simp; rfl) | rfl

@[simp] theorem sizes_overcurrentGone (s : P60) (f : FeederId) :
    (s.overcurrentGone f).sizes = s.sizes := by
  unfold P60.overcurrentGone
  try dsimp only
  repeat' split
  all_goals first | (simp; done) | with_reducible rfl | (simp; rfl) | rfl

@[simp] theorem sizes_enableFeeder (s : P60) (f : FeederId) :
    (s.enableFeeder f).sizes = s.sizes := by
  unfold P60.enableFeeder
  try dsimp only
  repeat' split
  all_goals first | (simp; done) | with_reducible rfl | (simp; rfl) | rfl

@[simp] theorem sizes_restoreExpires (s : P60) (f : FeederId) :
    (s.restoreExpires f).sizes = s.sizes := by
  unfold P60.restoreExpires
  try dsimp only
  repeat' split
  all_goals first | (simp; done) | with_reducible rfl | (simp; rfl) | rfl

@[simp] theorem sizes_enterEstop (s : P60) : s.enterEstop.sizes = s.sizes := by
  unfold P60.enterEstop
  try dsimp only
  repeat' split
  all_goals first | (simp; done) | with_reducible rfl | (simp; rfl) | rfl

@[simp] theorem sizes_leaveEstop (s : P60) : s.leaveEstop.sizes = s.sizes := by
  unfold P60.leaveEstop
  rw [sizes_foldl]
  · rfl
  · intro s f
    split <;> simp

@[simp] theorem sizes_silenceExpires (s : P60) : s.silenceExpires.sizes = s.sizes := by
  unfold P60.silenceExpires
  try dsimp only
  repeat' split
  all_goals first | (simp; done) | with_reducible rfl | (simp; rfl) | rfl

/-! ## Roster -/

theorem sizes_adopt? {s t : P60} {k : SlotId} {f r : Nat} (h : s.adopt? k f r = some t) : t.sizes = s.sizes := by
  unfold P60.adopt? at h
  split at h
  · cases h
    repeat' split
    all_goals simp
  · cases h

theorem sizes_adoption {s t : P60} {k : SlotId} {f r : Nat} (h : s.adoption k f r = some t) :
    t.sizes = s.sizes := by
  unfold P60.adoption at h
  simp only [Option.map_eq_some_iff] at h
  obtain ⟨u, hu, rfl⟩ := h
  rw [← sizes_adopt? hu]
  split <;> simp

@[simp] theorem sizes_adoptAnnounced (s : P60) (k : SlotId) :
    (s.adoptAnnounced k).sizes = s.sizes := by
  unfold P60.adoptAnnounced
  split
  · rename_i h
    exact sizes_adoption h
  · simp

@[simp] theorem sizes_retryAdoption (s : P60) (k : SlotId) :
    (s.retryAdoption k).sizes = s.sizes := by
  unfold P60.retryAdoption
  dsimp only
  split
  · split
    · rename_i h
      rw [← sizes_adoption h]
      split <;> simp
    · rfl
  · rfl

@[simp] theorem sizes_reconcileLoad (s : P60) (k : SlotId) :
    (s.reconcileLoad k).sizes = s.sizes := by
  unfold P60.reconcileLoad
  try dsimp only
  repeat' split
  all_goals first | (simp; done) | with_reducible rfl | (simp; rfl) | rfl

@[simp] theorem sizes_placeBind (s : P60) (k : SlotId) : (s.placeBind k).sizes = s.sizes := by
  unfold P60.placeBind
  try dsimp only
  repeat' split
  all_goals first | (simp; done) | with_reducible rfl | (simp; rfl) | rfl

@[simp] theorem sizes_bindSlot (s : P60) (k : SlotId) (a : Announcement) :
    (s.bindSlot k a).sizes = s.sizes := by
  unfold P60.bindSlot
  simp only [sizes_rejudgeHold, sizes_joinChangeSet, sizes_reconcileLoad]
  split
  · rename_i h
    simp [sizes_adoption h]
  · simp

@[simp] theorem sizes_rebindSlot (s : P60) (k : SlotId) (a : Announcement) :
    (s.rebindSlot k a).sizes = s.sizes := by
  unfold P60.rebindSlot
  try dsimp only
  repeat' split
  all_goals first | (simp; done) | with_reducible rfl | (simp; rfl) | rfl

@[simp] theorem sizes_loseSlot (s : P60) (k : SlotId) : (s.loseSlot k).sizes = s.sizes := by
  unfold P60.loseSlot
  try dsimp only
  repeat' split
  all_goals first | (simp; done) | with_reducible rfl | (simp; rfl) | rfl

@[simp] theorem sizes_leaveHeldSets (s : P60) (k : SlotId) :
    (s.leaveHeldSets k).sizes = s.sizes := by
  unfold P60.leaveHeldSets
  exact sizes_foldl _ (by simp) _ _

@[simp] theorem sizes_failReleased (s : P60) (k : SlotId) : (s.failReleased k).sizes = s.sizes := by
  unfold P60.failReleased
  try dsimp only
  repeat' split
  all_goals first | (simp; done) | with_reducible rfl | (simp; rfl) | rfl

@[simp] theorem sizes_freeSlot (s : P60) (k : SlotId) : (s.freeSlot k).sizes = s.sizes := by
  unfold P60.freeSlot
  try dsimp only
  repeat' split
  all_goals first | (simp; done) | with_reducible rfl | (simp; rfl) | rfl

@[simp] theorem sizes_releaseSlotNow (s : P60) (k : SlotId) :
    (s.releaseSlotNow k).sizes = s.sizes := by
  unfold P60.releaseSlotNow
  try dsimp only
  repeat' split
  all_goals first | (simp; done) | with_reducible rfl | (simp; rfl) | rfl

@[simp] theorem sizes_departs (s : P60) (k : SlotId) : (s.departs k).sizes = s.sizes := by
  unfold P60.departs
  try dsimp only
  repeat' split
  all_goals first | (simp; done) | with_reducible rfl | (simp; rfl) | rfl

@[simp] theorem sizes_rosterFault (s : P60) (k : SlotId) : (s.rosterFault k).sizes = s.sizes := by
  unfold P60.rosterFault
  try dsimp only
  repeat' split
  all_goals first | (simp; done) | with_reducible rfl | (simp; rfl) | rfl

@[simp] theorem sizes_faultReport (s : P60) (k : SlotId) (code : Byte) :
    (s.faultReport k code).sizes = s.sizes := by
  unfold P60.faultReport
  try dsimp only
  repeat' split
  all_goals first | (simp; done) | with_reducible rfl | (simp; rfl) | rfl

/-! ## Dispatcher -/

@[simp] theorem sizes_endScan (s : P60) : s.endScan.sizes = s.sizes := by
  unfold P60.endScan
  try dsimp only
  repeat' split
  all_goals first | (simp; done) | with_reducible rfl | (simp; rfl) | rfl

@[simp] theorem sizes_resumeSetting (s : P60) (k : SlotId) (o : Order) :
    (s.resumeSetting k o).sizes = s.sizes := by
  unfold P60.resumeSetting
  try dsimp only
  repeat' split
  all_goals first | (simp; done) | with_reducible rfl | (simp; rfl) | rfl

@[simp] theorem sizes_resume (s : P60) (o : Order) (g : Stage) :
    (s.resume o g).sizes = s.sizes := by
  unfold P60.resume
  try dsimp only
  repeat' split
  all_goals first | (simp; done) | with_reducible rfl | (simp; rfl) | rfl

/-! ## Clock -/

@[simp] theorem sizes_advance (s : P60) (n : Nat) : (s.advance n).sizes = s.sizes := by
  simp [P60.sizes, P60.advance]

/-! ## PlanStore -/

@[simp] theorem sizes_reloadInhibits (s : P60) : s.reloadInhibits.sizes = s.sizes := by
  simp [P60.sizes, P60.reloadInhibits]

/-! ## Sections -/

@[simp] theorem sizes_setProving (s : P60) (n : Nat) (t : Option Nat) :
    (s.setProving n t).sizes = s.sizes := by
  unfold P60.setProving
  try dsimp only
  repeat' split
  all_goals first | (simp; done) | with_reducible rfl | (simp; rfl) | rfl

@[simp] theorem sizes_autoRelease (s : P60) (k : SlotId) (n : Nat) :
    (s.autoRelease k n).sizes = s.sizes := by
  unfold P60.autoRelease
  try dsimp only
  repeat' split
  all_goals first | (simp; done) | with_reducible rfl | (simp; rfl) | rfl

@[simp] theorem sizes_evaluateRelease (s : P60) (k : SlotId) (n : Nat) :
    (s.evaluateRelease k n).sizes = s.sizes := by
  unfold P60.evaluateRelease
  try dsimp only
  repeat' split
  all_goals first | (simp; done) | with_reducible rfl | (simp; rfl) | rfl

@[simp] theorem sizes_confirmEntry (s : P60) (k : SlotId) : (s.confirmEntry k).sizes = s.sizes := by
  refine sizes_updSection _ _ _ ?_
  intro r
  repeat' split
  all_goals rfl

@[simp] theorem sizes_tablePosition (s : P60) (k : SlotId) :
    (s.tablePosition k).sizes = s.sizes := by
  unfold P60.tablePosition
  rw [sizes_foldl _ (by simp)]
  simp

@[simp] theorem sizes_detectorOccupied (s : P60) (n : Nat) (occ : Occupancy) :
    (s.detectorOccupied n occ).sizes = s.sizes := by
  unfold P60.detectorOccupied
  try dsimp only
  repeat' split
  all_goals first | (simp; done) | with_reducible rfl | (simp; rfl) | rfl

@[simp] theorem sizes_detectorClear (s : P60) (n : Nat) (occ : Occupancy) :
    (s.detectorClear n occ).sizes = s.sizes := by
  unfold P60.detectorClear
  try dsimp only
  repeat' split
  all_goals first | (simp; done) | with_reducible rfl | (simp; rfl) | rfl

@[simp] theorem sizes_detectorReport (s : P60) (n : Nat) (v : DetectorValue) :
    (s.detectorReport n v).sizes = s.sizes := by
  unfold P60.detectorReport
  try dsimp only
  repeat' split
  all_goals first | (simp; done) | with_reducible rfl | (simp; rfl) | rfl

@[simp] theorem sizes_detectorSilent (s : P60) (n : Nat) :
    (s.detectorSilent n).sizes = s.sizes := by
  unfold P60.detectorSilent
  try dsimp only
  repeat' split
  all_goals first | (simp; done) | with_reducible rfl | (simp; rfl) | rfl

@[simp] theorem sizes_clearingExpires (s : P60) (n : Nat) :
    (s.clearingExpires n).sizes = s.sizes := by
  unfold P60.clearingExpires
  try dsimp only
  repeat' split
  all_goals first | (simp; done) | with_reducible rfl | (simp; rfl) | rfl

@[simp] theorem sizes_confirmExpires (s : P60) (n : Nat) :
    (s.confirmExpires n).sizes = s.sizes := by
  unfold P60.confirmExpires
  rw [sizes_setDiscrepancy]
  refine sizes_updSection _ _ _ ?_
  intro r
  split <;> rfl

@[simp] theorem sizes_possess (s : P60) (n : Nat) : (s.possess n).sizes = s.sizes := by
  unfold P60.possess
  try dsimp only
  repeat' split
  all_goals first | (simp; done) | with_reducible rfl | (simp; rfl) | rfl

@[simp] theorem sizes_setInhibit (s : P60) (n : Nat) (on : Bool) :
    (s.setInhibit n on).sizes = s.sizes := by
  unfold P60.setInhibit
  try dsimp only
  repeat' split
  all_goals first | (simp; done) | with_reducible rfl | (simp; rfl) | rfl

/-! ## Turnouts -/

@[simp] theorem sizes_setTurnout (s : P60) (t : Nat) (st : TurnoutState) :
    (s.setTurnout t st).sizes = s.sizes := by
  simp [P60.setTurnout]

@[simp] theorem sizes_unrequested (s : P60) (r : TurnoutRec) :
    (s.unrequested r).sizes = s.sizes := by
  unfold P60.unrequested
  dsimp only
  split <;> simp [sizes_foldl _ sizes_brakeRequest]

@[simp] theorem sizes_reportUnlocked (s : P60) (r : TurnoutRec) (v : TurnoutValue) :
    (s.reportUnlocked r v).sizes = s.sizes := by
  unfold P60.reportUnlocked
  try dsimp only
  repeat' split
  all_goals first | (simp; done) | with_reducible rfl | (simp; rfl) | rfl

@[simp] theorem sizes_reportLocked (s : P60) (r : TurnoutRec) (v : TurnoutValue) :
    (s.reportLocked r v).sizes = s.sizes := by
  unfold P60.reportLocked
  try dsimp only
  repeat' split
  all_goals first | (simp; done) | with_reducible rfl | (simp; rfl) | rfl

@[simp] theorem sizes_turnoutReport (s : P60) (t : Nat) (v : TurnoutValue) :
    (s.turnoutReport t v).sizes = s.sizes := by
  unfold P60.turnoutReport
  try dsimp only
  repeat' split
  all_goals first | (simp; done) | with_reducible rfl | (simp; rfl) | rfl

@[simp] theorem sizes_turnoutSilent (s : P60) (t : Nat) : (s.turnoutSilent t).sizes = s.sizes := by
  unfold P60.turnoutSilent
  try dsimp only
  repeat' split
  all_goals first | (simp; done) | with_reducible rfl | (simp; rfl) | rfl

@[simp] theorem sizes_throwExpires (s : P60) (t : Nat) : (s.throwExpires t).sizes = s.sizes := by
  unfold P60.throwExpires
  try dsimp only
  repeat' split
  all_goals first | (simp; done) | with_reducible rfl | (simp; rfl) | rfl

/-! ## Pads -/

@[simp] theorem sizes_transfer (s : P60) (t : Nat) (l : Location) :
    (s.transfer t l).sizes = s.sizes := by
  unfold P60.transfer
  try dsimp only
  repeat' split
  all_goals first | (simp; done) | with_reducible rfl | (simp; rfl) | rfl

@[simp] theorem sizes_setLoadOf (s : P60) (k : SlotId) (i : Identity) (present : Bool) :
    (s.setLoadOf k i present).sizes = s.sizes := by
  unfold P60.setLoadOf
  try dsimp only
  repeat' split
  all_goals first | (simp; done) | with_reducible rfl | (simp; rfl) | rfl

@[simp] theorem sizes_liftedWritten (s : P60) (k : SlotId) (i : Identity) (id t : Nat) :
    (s.liftedWritten k i id t).sizes = s.sizes := by
  unfold P60.liftedWritten
  try dsimp only
  repeat' split
  all_goals first | (simp; done) | with_reducible rfl | (simp; rfl) | rfl

@[simp] theorem sizes_toClamp (s : P60) (k : SlotId) (o : Order) :
    (s.toClamp k o).sizes = s.sizes := by
  unfold P60.toClamp
  try dsimp only
  repeat' split
  all_goals first | (simp; done) | with_reducible rfl | (simp; rfl) | rfl

@[simp] theorem sizes_loweredWritten (s : P60) (k : SlotId) (i : Identity) (id t pad : Nat) :
    (s.loweredWritten k i id t pad).sizes = s.sizes := by
  unfold P60.loweredWritten
  try dsimp only
  repeat' split
  all_goals first | (simp; done) | with_reducible rfl | (simp; rfl) | rfl

/-! ## Positions -/

@[simp] theorem sizes_atPad (s : P60) (k : SlotId) (o : Order) : (s.atPad k o).sizes = s.sizes := by
  unfold P60.atPad
  try dsimp only
  repeat' split
  all_goals first | (simp; done) | with_reducible rfl | (simp; rfl) | rfl

@[simp] theorem sizes_creep (s : P60) (k : SlotId) : (s.creep k).sizes = s.sizes := by
  unfold P60.creep
  try dsimp only
  repeat' split
  all_goals first | (simp; done) | with_reducible rfl | (simp; rfl) | rfl

@[simp] theorem sizes_judgeRunning (s : P60) (k : SlotId) (o : Order) (rep : PositionReport) :
    (s.judgeRunning k o rep).sizes = s.sizes := by
  unfold P60.judgeRunning
  try dsimp only
  repeat' split
  all_goals first | (simp; done) | with_reducible rfl | (simp; rfl) | rfl

@[simp] theorem sizes_judgeStopping (s : P60) (k : SlotId) (o : Order) (stop : Option Cause) (rep : PositionReport) :
    (s.judgeStopping k o stop rep).sizes = s.sizes := by
  unfold P60.judgeStopping
  try dsimp only
  repeat' split
  all_goals first | (simp; done) | with_reducible rfl | (simp; rfl) | rfl

@[simp] theorem sizes_judgeStandstill (s : P60) (k : SlotId) (rep : PositionReport) :
    (s.judgeStandstill k rep).sizes = s.sizes := by
  unfold P60.judgeStandstill
  try dsimp only
  repeat' split
  all_goals first | (simp; done) | with_reducible rfl | (simp; rfl) | rfl

@[simp] theorem sizes_noteReport (s : P60) (k : SlotId) (rep : PositionReport) (still : Bool) :
    (s.noteReport k rep still).sizes = s.sizes := by
  unfold P60.noteReport
  try dsimp only
  repeat' split
  all_goals first | (simp; done) | with_reducible rfl | (simp; rfl) | rfl

@[simp] theorem sizes_supervise (s : P60) (k : SlotId) (rep : PositionReport) :
    (s.supervise k rep).sizes = s.sizes := by
  unfold P60.supervise
  try dsimp only
  repeat' split
  all_goals first | (simp; done) | with_reducible rfl | (simp; rfl) | rfl

@[simp] theorem sizes_judgeIf (s : P60) (k : SlotId) (rep : PositionReport) (still : Bool) :
    (s.judgeIf k rep still).sizes = s.sizes := by
  unfold P60.judgeIf
  try dsimp only
  repeat' split
  all_goals first | (simp; done) | with_reducible rfl | (simp; rfl) | rfl

@[simp] theorem sizes_superviseAndPass (s : P60) (k : SlotId) (rep : PositionReport) (still : Bool) :
    (s.superviseAndPass k rep still).sizes = s.sizes := by
  unfold P60.superviseAndPass
  dsimp only
  repeat' split
  all_goals simp
  all_goals rfl

@[simp] theorem sizes_payStandstill (s : P60) (k : SlotId) :
    (s.payStandstill k).sizes = s.sizes := by
  unfold P60.payStandstill
  try dsimp only
  repeat' split
  all_goals first | (simp; done) | with_reducible rfl | (simp; rfl) | rfl

@[simp] theorem sizes_positionReport (s : P60) (k : SlotId) (rep : PositionReport) :
    (s.positionReport k rep).sizes = s.sizes := by
  unfold P60.positionReport
  try dsimp only
  repeat' split
  all_goals first | (simp; done) | with_reducible rfl | (simp; rfl) | rfl

/-! ## FieldLink -/

@[simp] theorem sizes_noteTransmitted (s : P60) (n : Nat) (a : Awaiting) :
    (s.noteTransmitted n a).sizes = s.sizes := by
  unfold P60.noteTransmitted
  exact sizes_foldl _ (by simp) _ _

@[simp] theorem sizes_firstSending (s : P60) (a : Nat) (m : FieldMsg) :
    (s.firstSending a m).sizes = s.sizes := by
  unfold P60.firstSending
  try dsimp only
  repeat' split
  all_goals first | (simp; done) | with_reducible rfl | (simp; rfl) | rfl

@[simp] theorem sizes_beginExchange (s : P60) (a : Nat) (m : FieldMsg) (sweep : Bool) :
    (s.beginExchange a m sweep).sizes = s.sizes := by
  unfold P60.beginExchange
  simp
  rfl

@[simp] theorem sizes_sweepCheck (s : P60) : s.sweepCheck.sizes = s.sizes := by
  unfold P60.sweepCheck
  try dsimp only
  repeat' split
  all_goals first | (simp; done) | with_reducible rfl | (simp; rfl) | rfl

@[simp] theorem sizes_endExchange (s : P60) (e : Exchange) : (s.endExchange e).sizes = s.sizes := by
  unfold P60.endExchange
  try dsimp only
  repeat' split
  all_goals first | (simp; done) | with_reducible rfl | (simp; rfl) | rfl

@[simp] theorem sizes_tellSilent (s : P60) (u : FieldUnit) : (s.tellSilent u).sizes = s.sizes := by
  unfold P60.tellSilent
  try dsimp only
  repeat' split
  all_goals first | (simp; done) | with_reducible rfl | (simp; rfl) | rfl

@[simp] theorem sizes_resendField (s : P60) (e : Exchange) : (s.resendField e).sizes = s.sizes := by
  unfold P60.resendField
  try dsimp only
  repeat' split
  all_goals first | (simp; done) | with_reducible rfl | (simp; rfl) | rfl

@[simp] theorem sizes_fieldTimeout (s : P60) : s.fieldTimeout.sizes = s.sizes := by
  unfold P60.fieldTimeout
  try dsimp only
  repeat' split
  all_goals first | (simp; done) | with_reducible rfl | (simp; rfl) | rfl

/-! ## Transporters -/

@[simp] theorem sizes_slotReplied (s : P60) (k : SlotId) : (s.slotReplied k).sizes = s.sizes := by
  unfold P60.slotReplied
  try dsimp only
  repeat' split
  all_goals first | (simp; done) | with_reducible rfl | (simp; rfl) | rfl

@[simp] theorem sizes_strangerReplied (s : P60) (i : Identity) :
    (s.strangerReplied i).sizes = s.sizes := sizes_updStranger _ _ _ (fun _ => rfl)

@[simp] theorem sizes_setPeer (s : P60) (i : Identity) (p : Peer) :
    (s.setPeer i p).sizes = s.sizes := by
  unfold P60.setPeer
  split
  · exact sizes_updSlot _ _ _
  · exact sizes_updStranger _ _ _ (fun _ => rfl)

@[simp] theorem sizes_noteResent (s : P60) (i : Identity) (m : PeerMsg) :
    (s.noteResent i m).sizes = s.sizes := by
  unfold P60.noteResent
  try dsimp only
  repeat' split
  all_goals first | (simp; done) | with_reducible rfl | (simp; rfl) | rfl

@[simp] theorem sizes_deferralEnds (i : Identity) (place : PlaceName) (s : P60) :
    (P60.deferralEnds i place s).sizes = s.sizes := by
  unfold P60.deferralEnds
  try dsimp only
  repeat' split
  all_goals first | (simp; done) | with_reducible rfl | (simp; rfl) | rfl

@[simp] theorem sizes_peerPollDue (i : Identity) (s : P60) :
    (P60.peerPollDue i s).sizes = s.sizes := by
  unfold P60.peerPollDue
  try dsimp only
  repeat' split
  all_goals first | (simp; done) | with_reducible rfl | (simp; rfl) | rfl

@[simp] theorem sizes_repeatAllStop (s : P60) : s.repeatAllStop.sizes = s.sizes := by
  unfold P60.repeatAllStop
  try dsimp only
  repeat' split
  all_goals first | (simp; done) | with_reducible rfl | (simp; rfl) | rfl

end Sys2Proof.Machine
end

