-- ==== Sys2Proof/Laws/Stages.lean ====
section
/-! SUPPORT. An order's stage and end: what `setStage` and `finishOrder` write in the list and which order is live
after them; and what AUTHORITY and BRAKE leave in a slot (R62, R75, R104, R113). -/

namespace Sys2Proof.Machine

/-! ## One slot, updated -/

theorem slots_set_set (v : Vector Slot 6) (k : SlotId) (x y : Slot) : (v.set k x).set k y = v.set k y := by
  apply Vector.ext
  intro i hi
  simp only [Vector.getElem_set]
  split <;> rfl

theorem slot_updSlot_self (s : P60) (k : SlotId) (f : Slot → Slot) : (s.updSlot k f).slot k = f (s.slot k) := by
  simp

theorem withSlot_eq (s : P60) (k : SlotId) (f : Slot → Slot) : s.withSlot k f = s.updSlot k f := rfl

theorem updSlot_updSlot (s : P60) (k : SlotId) (f g : Slot → Slot) :
    (s.updSlot k f).updSlot k g = s.updSlot k (fun x => g (f x)) := by
  unfold P60.updSlot
  rw [slot_setSlot, if_pos rfl]
  unfold P60.setSlot
  simp only [slots_set_set]

/-! ## The order in hand -/

theorem liveOrder?_of_activeOrder? {s : P60} {k : SlotId} {o : Order} {g : Stage} {c : Option Cause}
    (h : s.activeOrder? k = some (o, g, c)) : s.liveOrder? k = some o ∧ o.state = .active g c := by
  unfold P60.activeOrder? at h
  split at h
  · split at h
    · cases h
      exact ⟨by assumption, by assumption⟩
    · cases h
  · cases h

theorem liveOrder?_of_orders {s t : P60} (h : t.orders = s.orders) (k : SlotId) :
    t.liveOrder? k = s.liveOrder? k := by
  unfold P60.liveOrder?
  rw [h]

theorem activeOrder?_of_orders {s t : P60} (h : t.orders = s.orders) (k : SlotId) :
    t.activeOrder? k = s.activeOrder? k := by
  unfold P60.activeOrder?
  rw [liveOrder?_of_orders h]

theorem orders_setOrderState (s : P60) (id : Nat) (st : OrderState) :
    (s.setOrderState id st).orders = s.orders.map (fun x => if x.id = id then { x with state := st } else x) := rfl

/-- The last of two states written to an order stays. -/
theorem map_state_twice (l : List Order) (id : Nat) (a b : OrderState) :
    (l.map (fun x => if x.id = id then { x with state := a } else x)).map
        (fun x => if x.id = id then { x with state := b } else x) =
      l.map (fun x => if x.id = id then { x with state := b } else x) := by
  rw [List.map_map]
  apply List.map_congr_left
  intro x _
  simp only [Function.comp]
  split <;> simp_all

/-- A live order whose state is set to a live one is the slot's live order still. -/
theorem liveOrder?_setOrderState {s : P60} {k : SlotId} {o : Order} (h : s.liveOrder? k = some o) (st : OrderState)
    (hst : st.live = true) :
    ∃ o', (s.setOrderState o.id st).liveOrder? k = some o' ∧ o'.id = o.id ∧ o'.state = st := by
  unfold P60.liveOrder? at *
  rw [orders_setOrderState]
  revert h
  generalize s.orders = l
  intro h
  induction l with
  | nil => cases h
  | cons a as ih =>
    rw [List.map_cons, List.find?_cons]
    rw [List.find?_cons] at h
    by_cases hid : a.id = o.id
    · simp only [hid, if_true, hst, Bool.and_true]
      by_cases hs : a.slot = k
      · simp [hs]
      · simp only [show (a.slot == k) = false by simpa using hs]
        simp only [show (a.slot == k) = false by simpa using hs, Bool.false_and] at h
        exact ih h
    · simp only [hid, if_false]
      split at h
      · cases h
        exact absurd rfl hid
      · exact ih h

/-- What entering a stage writes in the list: the slot's live order, ACTIVE in that stage (R62). -/
theorem orders_setStage {s : P60} {k : SlotId} {o : Order} (h : s.liveOrder? k = some o) (g : Stage)
    (c : Option Cause) : (s.setStage k g c).orders =
      s.orders.map (fun x => if x.id = o.id then { x with state := .active g c } else x) := by
  unfold P60.setStage
  rw [h]
  simp only
  split <;> simp [orders_setOrderState]

theorem liveOrder?_setStage {s : P60} {k : SlotId} {o : Order} (h : s.liveOrder? k = some o) (g : Stage)
    (c : Option Cause) :
    ∃ o', (s.setStage k g c).liveOrder? k = some o' ∧ o'.id = o.id ∧ o'.state = .active g c := by
  obtain ⟨o', h1, h2⟩ := liveOrder?_setOrderState h (.active g c) rfl
  refine ⟨o', ?_, h2⟩
  rw [← h1]
  apply liveOrder?_of_orders
  rw [orders_setStage h, orders_setOrderState]

/-- What a finish writes in the list: the state, and the promise freed (R75). -/
theorem orders_finishOrder (s : P60) (o : Order) (st : OrderState) (h : o.state.finished = false) :
    (s.finishOrder o st).orders =
      s.orders.map (fun x => if x.id = o.id then { x with state := st, promise := false } else x) := by
  have hl : (s.listFinish o.id st).orders =
      s.orders.map (fun x => if x.id = o.id then { x with state := st, promise := false } else x) := rfl
  unfold P60.finishOrder
  cases hs : o.state <;> simp_all [OrderState.finished]

/-! ## AUTHORITY and BRAKE -/

/-- A message handed to the link changes nothing in its slot but the peer (R161). -/
theorem slot_hand (s : P60) (k : SlotId) (place : PlaceName) (m : PeerMsg) :
    ∃ q, (s.hand k place m).slot k = { s.slot k with peer := q } := by
  unfold P60.hand
  split
  · split
    · split
      · exact ⟨_, by rw [slot_updSlot_self]; rfl⟩
      · exact ⟨_, rfl⟩
    · exact ⟨_, slot_updSlot_self _ _ _⟩
  · exact ⟨_, rfl⟩

/-- AUTHORITY makes the slot's record GIVEN with its ceiling (R104, R105). -/
theorem slot_sendAuthority (s : P60) (k : SlotId) (e : Eoa) :
    ∃ q, (s.sendAuthority k e).slot k = { s.slot k with
      authority := { (s.slot k).authority with state := .given e, sentCeiling := s.ceilingFor k e }
      peer := q } := by
  obtain ⟨q, h⟩ := slot_hand
    (s.updAuthority k (fun a => { a with state := .given e, sentCeiling := s.ceilingFor k e })) k .motion
    (.authority e.sec e.off (s.ceilingFor k e))
  refine ⟨q, ?_⟩
  unfold P60.sendAuthority
  rw [h]
  unfold P60.updAuthority
  rw [slot_updSlot_self]

/-- AUTHORITY to a bound slot that is not LOST: the record, and the message in the motion place (R104, R161). -/
theorem sendAuthority_eq (s : P60) (k : SlotId) (e : Eoa) (i : Identity) (p : Peer)
    (h1 : (s.slot k).ident = some i) (h2 : (s.slot k).peer = some p) (h3 : (s.slot k).status ≠ .lost) :
    s.sendAuthority k e = s.updSlot k (fun x => { x with
      authority := { x.authority with state := .given e, sentCeiling := s.ceilingFor k e }
      peer := some (p.put .motion (.authority e.sec e.off (s.ceilingFor k e))) }) := by
  unfold P60.sendAuthority P60.hand P60.updAuthority
  simp only [slot_updSlot_self, h1, h2, h3, if_false, updSlot_updSlot]

/-- BRAKE to a bound slot that is not LOST stands in the motion place (R105, R161). -/
theorem sendBrake_eq (s : P60) (k : SlotId) (i : Identity) (p : Peer) (h1 : (s.slot k).ident = some i)
    (h2 : (s.slot k).peer = some p) (h3 : (s.slot k).status ≠ .lost) :
    s.sendBrake k = s.updSlot k (fun x => { x with peer := some (p.put .motion .brake) }) := by
  unfold P60.sendBrake P60.hand
  simp only [h1, h2, h3, if_false]

end Sys2Proof.Machine
end

