-- ==== Sys2Proof/Laws/SteadyOfRules.lean ====
section
/-! SUPPORT. The steady part, through the operations of the rules that leave it as it was. -/

namespace Sys2Proof.Machine

/-! ## Flags -/

@[simp] theorem steady_setDiscrepancy (s : P60) (n : Nat) :
    (s.setDiscrepancy n).steady = s.steady := by
  unfold P60.setDiscrepancy
  try dsimp only
  repeat' split
  all_goals first | (simp; done) | with_reducible rfl | (simp; rfl) | rfl

@[simp] theorem steady_setFault (s : P60) (k : SlotId) (c : FaultCause) :
    (s.setFault k c).steady = s.steady := by
  unfold P60.setFault
  try dsimp only
  repeat' split
  all_goals first | (simp; done) | with_reducible rfl | (simp; rfl) | rfl

/-! ## Reservation -/

@[simp] theorem steady_disturb (s : P60) (n : Nat) : (s.disturb n).steady = s.steady := by
  unfold P60.disturb
  try dsimp only
  repeat' split
  all_goals first | (simp; done) | with_reducible rfl | (simp; rfl) | rfl

@[simp] theorem steady_disturbOwned (s : P60) (n : Nat) : (s.disturbOwned n).steady = s.steady := by
  unfold P60.disturbOwned
  try dsimp only
  repeat' split
  all_goals first | (simp; done) | with_reducible rfl | (simp; rfl) | rfl

@[simp] theorem steady_becomeFree (s : P60) (n : Nat) : (s.becomeFree n).steady = s.steady := by
  unfold P60.becomeFree
  try dsimp only
  repeat' split
  all_goals first | (simp; done) | with_reducible rfl | (simp; rfl) | rfl

@[simp] theorem steady_oweFeederChecks (s : P60) (f : FeederId) :
    (s.oweFeederChecks f).steady = s.steady := by
  unfold P60.oweFeederChecks
  exact steady_foldl _ (by simp) _ _

@[simp] theorem steady_detection (s : P60) (n : Nat) : (s.detection n).steady = s.steady := by
  unfold P60.detection
  try dsimp only
  repeat' split
  all_goals first | (simp; done) | with_reducible rfl | (simp; rfl) | rfl

@[simp] theorem steady_detect (s : P60) (r : TurnoutRec) (x : Leg) :
    (s.detect r x).steady = s.steady := by
  unfold P60.detect
  try dsimp only
  repeat' split
  all_goals first | (simp; done) | with_reducible rfl | (simp; rfl) | rfl

@[simp] theorem steady_adoptOne (s : P60) (k : SlotId) (n : Nat) :
    (s.adoptOne k n).steady = s.steady := by
  unfold P60.adoptOne
  try dsimp only
  repeat' split
  all_goals first | (simp; done) | with_reducible rfl | (simp; rfl) | rfl

/-! ## Braking -/

@[simp] theorem steady_intervene (s : P60) (k : SlotId) (o : Order) (g : Stage) (ev : Evaluation) :
    (s.intervene k o g ev).steady = s.steady := by
  unfold P60.intervene
  try dsimp only
  repeat' split
  all_goals first | (simp; done) | with_reducible rfl | (simp; rfl) | rfl

@[simp] theorem steady_updateCeiling (s : P60) (k : SlotId) :
    (s.updateCeiling k).steady = s.steady := by
  unfold P60.updateCeiling
  try dsimp only
  repeat' split
  all_goals first | (simp; done) | with_reducible rfl | (simp; rfl) | rfl

@[simp] theorem steady_unauthorised (s : P60) (k : SlotId) (rep : PositionReport) :
    (s.unauthorised k rep).steady = s.steady := by
  unfold P60.unauthorised
  try dsimp only
  repeat' split
  all_goals first | (simp; done) | with_reducible rfl | (simp; rfl) | rfl

@[simp] theorem steady_evaluate (s : P60) (k : SlotId) (rep : PositionReport) :
    (s.evaluate k rep).steady = s.steady := by
  unfold P60.evaluate
  try dsimp only
  repeat' split
  all_goals first | (simp; done) | with_reducible rfl | (simp; rfl) | rfl

@[simp] theorem steady_cutBack (s : P60) (k : SlotId) : (s.cutBack k).steady = s.steady := by
  unfold P60.cutBack
  try dsimp only
  repeat' split
  all_goals first | (simp; done) | with_reducible rfl | (simp; rfl) | rfl

/-! ## RouteSetter -/

@[simp] theorem steady_loseFromRun (s : P60) (k : SlotId) (n : Nat) :
    (s.loseFromRun k n).steady = s.steady := by
  unfold P60.loseFromRun
  try dsimp only
  repeat' split
  all_goals first | (simp; done) | with_reducible rfl | (simp; rfl) | rfl

@[simp] theorem steady_capture (s : P60) (k : SlotId) (o : Order) (j : Nat) :
    (s.capture k o j).steady = s.steady := by
  unfold P60.capture
  try dsimp only
  repeat' split
  all_goals first | (simp; done) | with_reducible rfl | (simp; rfl) | rfl

@[simp] theorem steady_sectionEntry (s : P60) (k : SlotId) (n : Nat) :
    (s.sectionEntry k n).steady = s.steady := by
  unfold P60.sectionEntry
  try dsimp only
  repeat' split
  all_goals first | (simp; done) | with_reducible rfl | (simp; rfl) | rfl

/-! ## Docking -/

@[simp] theorem steady_await (s : P60) (k : SlotId) (a : Awaiting) (limit : Nat) :
    (s.await k a limit).steady = s.steady := by
  unfold P60.await
  try dsimp only
  repeat' split
  all_goals first | (simp; done) | with_reducible rfl | (simp; rfl) | rfl

@[simp] theorem steady_sendPadUnlock (s : P60) (k : SlotId) :
    (s.sendPadUnlock k).steady = s.steady := by
  unfold P60.sendPadUnlock
  try dsimp only
  repeat' split
  all_goals first | (simp; done) | with_reducible rfl | (simp; rfl) | rfl

@[simp] theorem steady_sendLift (s : P60) (k : SlotId) : (s.sendLift k).steady = s.steady := by
  unfold P60.sendLift
  try dsimp only
  repeat' split
  all_goals first | (simp; done) | with_reducible rfl | (simp; rfl) | rfl

@[simp] theorem steady_sendLower (s : P60) (k : SlotId) : (s.sendLower k).steady = s.steady := by
  unfold P60.sendLower
  try dsimp only
  repeat' split
  all_goals first | (simp; done) | with_reducible rfl | (simp; rfl) | rfl

@[simp] theorem steady_sendPadLock (s : P60) (k : SlotId) :
    (s.sendPadLock k).steady = s.steady := by
  unfold P60.sendPadLock
  try dsimp only
  repeat' split
  all_goals first | (simp; done) | with_reducible rfl | (simp; rfl) | rfl

@[simp] theorem steady_withhold (s : P60) (k : SlotId) (g : Stage) (c : CommandDue) :
    (s.withhold k g c).steady = s.steady := by
  unfold P60.withhold
  try dsimp only
  repeat' split
  all_goals first | (simp; done) | with_reducible rfl | (simp; rfl) | rfl

@[simp] theorem steady_padUnlockOrWait (s : P60) (k : SlotId) :
    (s.padUnlockOrWait k).steady = s.steady := by
  unfold P60.padUnlockOrWait
  try dsimp only
  repeat' split
  all_goals first | (simp; done) | with_reducible rfl | (simp; rfl) | rfl

@[simp] theorem steady_padUnlockAgain (s : P60) (k : SlotId) :
    (s.padUnlockAgain k).steady = s.steady := by
  unfold P60.padUnlockAgain
  try dsimp only
  repeat' split
  all_goals first | (simp; done) | with_reducible rfl | (simp; rfl) | rfl

@[simp] theorem steady_liftOrWait (s : P60) (k : SlotId) : (s.liftOrWait k).steady = s.steady := by
  unfold P60.liftOrWait
  try dsimp only
  repeat' split
  all_goals first | (simp; done) | with_reducible rfl | (simp; rfl) | rfl

@[simp] theorem steady_lowerOrWait (s : P60) (k : SlotId) :
    (s.lowerOrWait k).steady = s.steady := by
  unfold P60.lowerOrWait
  try dsimp only
  repeat' split
  all_goals first | (simp; done) | with_reducible rfl | (simp; rfl) | rfl

@[simp] theorem steady_sendDue (s : P60) (k : SlotId) : (s.sendDue k).steady = s.steady := by
  unfold P60.sendDue
  try dsimp only
  repeat' split
  all_goals first | (simp; done) | with_reducible rfl | (simp; rfl) | rfl

@[simp] theorem steady_sendAllDue (s : P60) : s.sendAllDue.steady = s.steady := by
  unfold P60.sendAllDue
  refine steady_foldl _ ?_ _ _
  intro s k
  split <;> simp

@[simp] theorem steady_beginDocking (s : P60) (k : SlotId) (o : Order) :
    (s.beginDocking k o).steady = s.steady := by
  unfold P60.beginDocking
  try dsimp only
  repeat' split
  all_goals first | (simp; done) | with_reducible rfl | (simp; rfl) | rfl

@[simp] theorem steady_arrive (s : P60) (k : SlotId) (o : Order) :
    (s.arrive k o).steady = s.steady := by
  unfold P60.arrive
  try dsimp only
  repeat' split
  all_goals first | (simp; done) | with_reducible rfl | (simp; rfl) | rfl

@[simp] theorem steady_failTransporter (s : P60) (k : SlotId) :
    (s.failTransporter k).steady = s.steady := by
  unfold P60.failTransporter
  try dsimp only
  repeat' split
  all_goals first | (simp; done) | with_reducible rfl | (simp; rfl) | rfl

@[simp] theorem steady_displaced (s : P60) (k : SlotId) : (s.displaced k).steady = s.steady := by
  unfold P60.displaced
  try dsimp only
  repeat' split
  all_goals first | (simp; done) | with_reducible rfl | (simp; rfl) | rfl

@[simp] theorem steady_resumeStage (s : P60) (k : SlotId) (o : Order) (g : Stage) :
    (s.resumeStage k o g).steady = s.steady := by
  unfold P60.resumeStage
  try dsimp only
  repeat' split
  all_goals first | (simp; done) | with_reducible rfl | (simp; rfl) | rfl

@[simp] theorem steady_resumeDocking (s : P60) (k : SlotId) (o : Order) (g : Stage) :
    (s.resumeDocking k o g).steady = s.steady := by
  unfold P60.resumeDocking
  try dsimp only
  repeat' split
  all_goals first | (simp; done) | with_reducible rfl | (simp; rfl) | rfl

@[simp] theorem steady_endStage (s : P60) (k : SlotId) : (s.endStage k).steady = s.steady := by
  unfold P60.endStage
  try dsimp only
  repeat' split
  all_goals first | (simp; done) | with_reducible rfl | (simp; rfl) | rfl

@[simp] theorem steady_clampActs (s : P60) (k : SlotId) (v : ClampValue) :
    (s.clampActs k v).steady = s.steady := by
  unfold P60.clampActs
  try dsimp only
  repeat' split
  all_goals first | (simp; done) | with_reducible rfl | (simp; rfl) | rfl

@[simp] theorem steady_stageExpires (s : P60) (k : SlotId) :
    (s.stageExpires k).steady = s.steady := by
  unfold P60.stageExpires
  try dsimp only
  repeat' split
  all_goals first | (simp; done) | with_reducible rfl | (simp; rfl) | rfl

@[simp] theorem steady_setLoad (s : P60) (k : SlotId) (present : Bool) :
    (s.setLoad k present).steady = s.steady := by
  unfold P60.setLoad
  try dsimp only
  repeat' split
  all_goals first | (simp; done) | with_reducible rfl | (simp; rfl) | rfl

@[simp] theorem steady_unawaited (s : P60) (k : SlotId) (present : Bool) :
    (s.unawaited k present).steady = s.steady := by
  unfold P60.unawaited
  try dsimp only
  repeat' split
  all_goals first | (simp; done) | with_reducible rfl | (simp; rfl) | rfl

/-! ## Holds -/

@[simp] theorem steady_holdBegins (s : P60) (k : SlotId) : (s.holdBegins k).steady = s.steady := by
  unfold P60.holdBegins
  try dsimp only
  repeat' split
  all_goals first | (simp; done) | with_reducible rfl | (simp; rfl) | rfl

@[simp] theorem steady_windHoldActs (s : P60) (k : SlotId) (p : HoldPolicy) :
    (s.windHoldActs k p).steady = s.steady := by
  unfold P60.windHoldActs
  try dsimp only
  repeat' split
  all_goals first | (simp; done) | with_reducible rfl | (simp; rfl) | rfl

@[simp] theorem steady_holdEnds (s : P60) (k : SlotId) : (s.holdEnds k).steady = s.steady := by
  unfold P60.holdEnds
  try dsimp only
  repeat' split
  all_goals first | (simp; done) | with_reducible rfl | (simp; rfl) | rfl

@[simp] theorem steady_windChange (s : P60) (k : SlotId) (was now : Option HoldPolicy) :
    (s.windChange k was now).steady = s.steady := by
  unfold P60.windChange
  try dsimp only
  repeat' split
  all_goals first | (simp; done) | with_reducible rfl | (simp; rfl) | rfl

@[simp] theorem steady_rejudgeHold (s : P60) (k : SlotId) :
    (s.rejudgeHold k).steady = s.steady := by
  unfold P60.rejudgeHold
  try dsimp only
  repeat' split
  all_goals first | (simp; done) | with_reducible rfl | (simp; rfl) | rfl

@[simp] theorem steady_rejudgeHolds (s : P60) : s.rejudgeHolds.steady = s.steady := by
  unfold P60.rejudgeHolds
  exact steady_foldl _ (by simp) _ _

/-! ## Roster -/

theorem steady_adopt? {s t : P60} {k : SlotId} {f r : Nat} (h : s.adopt? k f r = some t) : t.steady = s.steady := by
  unfold P60.adopt? at h
  split at h
  · cases h
    repeat' split
    all_goals simp
  · cases h

@[simp] theorem steady_reconcileLoad (s : P60) (k : SlotId) :
    (s.reconcileLoad k).steady = s.steady := by
  unfold P60.reconcileLoad
  try dsimp only
  repeat' split
  all_goals first | (simp; done) | with_reducible rfl | (simp; rfl) | rfl

@[simp] theorem steady_placeBind (s : P60) (k : SlotId) : (s.placeBind k).steady = s.steady := by
  unfold P60.placeBind
  try dsimp only
  repeat' split
  all_goals first | (simp; done) | with_reducible rfl | (simp; rfl) | rfl

@[simp] theorem steady_failReleased (s : P60) (k : SlotId) :
    (s.failReleased k).steady = s.steady := by
  unfold P60.failReleased
  try dsimp only
  repeat' split
  all_goals first | (simp; done) | with_reducible rfl | (simp; rfl) | rfl

@[simp] theorem steady_rosterFault (s : P60) (k : SlotId) :
    (s.rosterFault k).steady = s.steady := by
  unfold P60.rosterFault
  try dsimp only
  repeat' split
  all_goals first | (simp; done) | with_reducible rfl | (simp; rfl) | rfl

@[simp] theorem steady_faultReport (s : P60) (k : SlotId) (code : Byte) :
    (s.faultReport k code).steady = s.steady := by
  unfold P60.faultReport
  try dsimp only
  repeat' split
  all_goals first | (simp; done) | with_reducible rfl | (simp; rfl) | rfl

/-! ## Dispatcher -/

@[simp] theorem steady_endScan (s : P60) : s.endScan.steady = s.steady := by
  unfold P60.endScan
  try dsimp only
  repeat' split
  all_goals first | (simp; done) | with_reducible rfl | (simp; rfl) | rfl

@[simp] theorem steady_resumeSetting (s : P60) (k : SlotId) (o : Order) :
    (s.resumeSetting k o).steady = s.steady := by
  unfold P60.resumeSetting
  try dsimp only
  repeat' split
  all_goals first | (simp; done) | with_reducible rfl | (simp; rfl) | rfl

@[simp] theorem steady_resume (s : P60) (o : Order) (g : Stage) :
    (s.resume o g).steady = s.steady := by
  unfold P60.resume
  try dsimp only
  repeat' split
  all_goals first | (simp; done) | with_reducible rfl | (simp; rfl) | rfl

/-! ## PlanStore -/

@[simp] theorem steady_reloadInhibits (s : P60) : s.reloadInhibits.steady = s.steady := by
  unfold P60.reloadInhibits
  first | rfl | exact steady_foldl _ (by simp) _ _

/-! ## Sections -/

@[simp] theorem steady_setProving (s : P60) (n : Nat) (t : Option Nat) :
    (s.setProving n t).steady = s.steady := by
  unfold P60.setProving
  try dsimp only
  repeat' split
  all_goals first | (simp; done) | with_reducible rfl | (simp; rfl) | rfl

@[simp] theorem steady_autoRelease (s : P60) (k : SlotId) (n : Nat) :
    (s.autoRelease k n).steady = s.steady := by
  unfold P60.autoRelease
  try dsimp only
  repeat' split
  all_goals first | (simp; done) | with_reducible rfl | (simp; rfl) | rfl

@[simp] theorem steady_evaluateRelease (s : P60) (k : SlotId) (n : Nat) :
    (s.evaluateRelease k n).steady = s.steady := by
  unfold P60.evaluateRelease
  try dsimp only
  repeat' split
  all_goals first | (simp; done) | with_reducible rfl | (simp; rfl) | rfl

@[simp] theorem steady_confirmEntry (s : P60) (k : SlotId) :
    (s.confirmEntry k).steady = s.steady := by
  unfold P60.confirmEntry
  try dsimp only
  repeat' split
  all_goals first | (simp; done) | with_reducible rfl | (simp; rfl) | rfl

@[simp] theorem steady_tablePosition (s : P60) (k : SlotId) :
    (s.tablePosition k).steady = s.steady := by
  unfold P60.tablePosition
  rw [steady_foldl _ (by simp)]
  simp

@[simp] theorem steady_detectorOccupied (s : P60) (n : Nat) (occ : Occupancy) :
    (s.detectorOccupied n occ).steady = s.steady := by
  unfold P60.detectorOccupied
  try dsimp only
  repeat' split
  all_goals first | (simp; done) | with_reducible rfl | (simp; rfl) | rfl

@[simp] theorem steady_detectorClear (s : P60) (n : Nat) (occ : Occupancy) :
    (s.detectorClear n occ).steady = s.steady := by
  unfold P60.detectorClear
  try dsimp only
  repeat' split
  all_goals first | (simp; done) | with_reducible rfl | (simp; rfl) | rfl

@[simp] theorem steady_detectorReport (s : P60) (n : Nat) (v : DetectorValue) :
    (s.detectorReport n v).steady = s.steady := by
  unfold P60.detectorReport
  try dsimp only
  repeat' split
  all_goals first | (simp; done) | with_reducible rfl | (simp; rfl) | rfl

@[simp] theorem steady_detectorSilent (s : P60) (n : Nat) :
    (s.detectorSilent n).steady = s.steady := by
  unfold P60.detectorSilent
  try dsimp only
  repeat' split
  all_goals first | (simp; done) | with_reducible rfl | (simp; rfl) | rfl

@[simp] theorem steady_clearingExpires (s : P60) (n : Nat) :
    (s.clearingExpires n).steady = s.steady := by
  unfold P60.clearingExpires
  try dsimp only
  repeat' split
  all_goals first | (simp; done) | with_reducible rfl | (simp; rfl) | rfl

@[simp] theorem steady_confirmExpires (s : P60) (n : Nat) :
    (s.confirmExpires n).steady = s.steady := by
  unfold P60.confirmExpires
  try dsimp only
  repeat' split
  all_goals first | (simp; done) | with_reducible rfl | (simp; rfl) | rfl

@[simp] theorem steady_possess (s : P60) (n : Nat) : (s.possess n).steady = s.steady := by
  unfold P60.possess
  try dsimp only
  repeat' split
  all_goals first | (simp; done) | with_reducible rfl | (simp; rfl) | rfl

@[simp] theorem steady_setInhibit (s : P60) (n : Nat) (on : Bool) :
    (s.setInhibit n on).steady = s.steady := by
  unfold P60.setInhibit
  try dsimp only
  repeat' split
  all_goals first | (simp; done) | with_reducible rfl | (simp; rfl) | rfl

/-! ## Turnouts -/

@[simp] theorem steady_setTurnout (s : P60) (t : Nat) (st : TurnoutState) :
    (s.setTurnout t st).steady = s.steady := by
  unfold P60.setTurnout
  try dsimp only
  repeat' split
  all_goals first | (simp; done) | with_reducible rfl | (simp; rfl) | rfl

@[simp] theorem steady_unrequested (s : P60) (r : TurnoutRec) :
    (s.unrequested r).steady = s.steady := by
  unfold P60.unrequested
  dsimp only
  split <;> simp [steady_foldl _ steady_brakeRequest]

@[simp] theorem steady_reportUnlocked (s : P60) (r : TurnoutRec) (v : TurnoutValue) :
    (s.reportUnlocked r v).steady = s.steady := by
  unfold P60.reportUnlocked
  try dsimp only
  repeat' split
  all_goals first | (simp; done) | with_reducible rfl | (simp; rfl) | rfl

@[simp] theorem steady_reportLocked (s : P60) (r : TurnoutRec) (v : TurnoutValue) :
    (s.reportLocked r v).steady = s.steady := by
  unfold P60.reportLocked
  try dsimp only
  repeat' split
  all_goals first | (simp; done) | with_reducible rfl | (simp; rfl) | rfl

@[simp] theorem steady_turnoutReport (s : P60) (t : Nat) (v : TurnoutValue) :
    (s.turnoutReport t v).steady = s.steady := by
  unfold P60.turnoutReport
  try dsimp only
  repeat' split
  all_goals first | (simp; done) | with_reducible rfl | (simp; rfl) | rfl

@[simp] theorem steady_turnoutSilent (s : P60) (t : Nat) :
    (s.turnoutSilent t).steady = s.steady := by
  unfold P60.turnoutSilent
  try dsimp only
  repeat' split
  all_goals first | (simp; done) | with_reducible rfl | (simp; rfl) | rfl

@[simp] theorem steady_throwExpires (s : P60) (t : Nat) : (s.throwExpires t).steady = s.steady := by
  unfold P60.throwExpires
  try dsimp only
  repeat' split
  all_goals first | (simp; done) | with_reducible rfl | (simp; rfl) | rfl

/-! ## Pads -/

@[simp] theorem steady_setLoadOf (s : P60) (k : SlotId) (i : Identity) (present : Bool) :
    (s.setLoadOf k i present).steady = s.steady := by
  unfold P60.setLoadOf
  try dsimp only
  repeat' split
  all_goals first | (simp; done) | with_reducible rfl | (simp; rfl) | rfl

@[simp] theorem steady_toClamp (s : P60) (k : SlotId) (o : Order) :
    (s.toClamp k o).steady = s.steady := by
  unfold P60.toClamp
  try dsimp only
  repeat' split
  all_goals first | (simp; done) | with_reducible rfl | (simp; rfl) | rfl

/-! ## Positions -/

@[simp] theorem steady_atPad (s : P60) (k : SlotId) (o : Order) :
    (s.atPad k o).steady = s.steady := by
  unfold P60.atPad
  try dsimp only
  repeat' split
  all_goals first | (simp; done) | with_reducible rfl | (simp; rfl) | rfl

@[simp] theorem steady_creep (s : P60) (k : SlotId) : (s.creep k).steady = s.steady := by
  unfold P60.creep
  try dsimp only
  repeat' split
  all_goals first | (simp; done) | with_reducible rfl | (simp; rfl) | rfl

@[simp] theorem steady_judgeRunning (s : P60) (k : SlotId) (o : Order) (rep : PositionReport) :
    (s.judgeRunning k o rep).steady = s.steady := by
  unfold P60.judgeRunning
  try dsimp only
  repeat' split
  all_goals first | (simp; done) | with_reducible rfl | (simp; rfl) | rfl

@[simp] theorem steady_judgeStopping (s : P60) (k : SlotId) (o : Order) (stop : Option Cause) (rep : PositionReport) :
    (s.judgeStopping k o stop rep).steady = s.steady := by
  unfold P60.judgeStopping
  try dsimp only
  repeat' split
  all_goals first | (simp; done) | with_reducible rfl | (simp; rfl) | rfl

@[simp] theorem steady_judgeStandstill (s : P60) (k : SlotId) (rep : PositionReport) :
    (s.judgeStandstill k rep).steady = s.steady := by
  unfold P60.judgeStandstill
  try dsimp only
  repeat' split
  all_goals first | (simp; done) | with_reducible rfl | (simp; rfl) | rfl

@[simp] theorem steady_noteReport (s : P60) (k : SlotId) (rep : PositionReport) (still : Bool) :
    (s.noteReport k rep still).steady = s.steady := by
  unfold P60.noteReport
  try dsimp only
  repeat' split
  all_goals first | (simp; done) | with_reducible rfl | (simp; rfl) | rfl

@[simp] theorem steady_supervise (s : P60) (k : SlotId) (rep : PositionReport) :
    (s.supervise k rep).steady = s.steady := by
  unfold P60.supervise
  try dsimp only
  repeat' split
  all_goals first | (simp; done) | with_reducible rfl | (simp; rfl) | rfl

@[simp] theorem steady_judgeIf (s : P60) (k : SlotId) (rep : PositionReport) (still : Bool) :
    (s.judgeIf k rep still).steady = s.steady := by
  unfold P60.judgeIf
  try dsimp only
  repeat' split
  all_goals first | (simp; done) | with_reducible rfl | (simp; rfl) | rfl

/-! ## FieldLink -/

@[simp] theorem steady_noteTransmitted (s : P60) (n : Nat) (a : Awaiting) :
    (s.noteTransmitted n a).steady = s.steady := by
  unfold P60.noteTransmitted
  exact steady_foldl _ (by simp) _ _

/-! ## Transporters -/

@[simp] theorem steady_slotReplied (s : P60) (k : SlotId) :
    (s.slotReplied k).steady = s.steady := by
  unfold P60.slotReplied
  try dsimp only
  repeat' split
  all_goals first | (simp; done) | with_reducible rfl | (simp; rfl) | rfl

@[simp] theorem steady_strangerReplied (s : P60) (i : Identity) :
    (s.strangerReplied i).steady = s.steady := by
  unfold P60.strangerReplied
  try dsimp only
  repeat' split
  all_goals first | (simp; done) | with_reducible rfl | (simp; rfl) | rfl

@[simp] theorem steady_setPeer (s : P60) (i : Identity) (p : Peer) :
    (s.setPeer i p).steady = s.steady := by
  unfold P60.setPeer
  try dsimp only
  repeat' split
  all_goals first | (simp; done) | with_reducible rfl | (simp; rfl) | rfl

@[simp] theorem steady_noteResent (s : P60) (i : Identity) (m : PeerMsg) :
    (s.noteResent i m).steady = s.steady := by
  unfold P60.noteResent
  try dsimp only
  repeat' split
  all_goals first | (simp; done) | with_reducible rfl | (simp; rfl) | rfl

@[simp] theorem steady_deferralEnds (i : Identity) (place : PlaceName) (s : P60) :
    (P60.deferralEnds i place s).steady = s.steady := by
  unfold P60.deferralEnds
  try dsimp only
  repeat' split
  all_goals first | (simp; done) | with_reducible rfl | (simp; rfl) | rfl

@[simp] theorem steady_peerPollDue (i : Identity) (s : P60) :
    (P60.peerPollDue i s).steady = s.steady := by
  unfold P60.peerPollDue
  try dsimp only
  repeat' split
  all_goals first | (simp; done) | with_reducible rfl | (simp; rfl) | rfl

end Sys2Proof.Machine
end

