-- ==== Sys2Proof/Laws/Turns.lean ====
section
/-! SUPPORT. The transporter link's turn, told peer by peer: what a command's end makes of a state that owes
nothing. -/

namespace Sys2Proof.Machine

theorem next?_eq_dueIn (p : Peer) (places : List PlaceName) : p.next? places = p.dueIn places := by
  induction places with
  | nil => rfl
  | cons place rest ih =>
    unfold Peer.next? at ih ⊢
    simp only [List.findSome?_cons, Peer.dueIn, Peer.due?]
    rcases h : p.get place with _ | ⟨m, tag, sent, _ | n⟩ <;> simp [ih]

/-- What a peer's turn sends, and the peer after it. -/
theorem pump_eq_turn (p : Peer) (i : Identity) (now : Word) (places : List PlaceName) :
    p.pump i now places =
      (p.turn now places).1.map (fun m => (peerFrame i m.tag m.msg, m.msg, (p.turn now places).2)) := by
  unfold Peer.pump Peer.turn
  rw [next?_eq_dueIn]
  rcases ha : p.attempt with _ | a
  · rcases hd : p.dueIn places with _ | ⟨place, x⟩
    · simp
    · simp [Peer.launch, replyWait]
  · simp

/-- A turn that sends nothing leaves the peer. -/
theorem turn_of_none (p : Peer) (now : Word) (places : List PlaceName) (h : (p.turn now places).1 = none) :
    (p.turn now places).2 = p := by
  unfold Peer.turn at h ⊢
  split at h
  · cases h
  · rfl

theorem set_slot_self (s : P60) (k : SlotId) : { s with slots := s.slots.set k (s.slot k) } = s := by
  have e : s.slots.set k (s.slot k) = s.slots := Vector.set_getElem_self k.isLt
  rw [e]

/-- A slot whose turn sends nothing is left as it is. -/
theorem afterTurn_of_idle (x : Slot) (p : Peer) (i : Identity) (now : Word) (hi : x.ident = some i)
    (hp : x.peer = some p) (ht : (p.turn now [.bind, .motion, .docking, .poll]).1 = none) :
    x.afterTurn now = x ∧ x.turnFrames now = [] := by
  have e : p.turn now [.bind, .motion, .docking, .poll] = (none, p) := Prod.ext ht (turn_of_none _ _ _ ht)
  cases x
  simp only at hi hp
  subst hi hp
  unfold Slot.afterTurn Slot.turnFrames Slot.turn
  simp [e]

/-- A slot whose turn sends a message. -/
theorem afterTurn_of_sent (x : Slot) (p q : Peer) (m : Placed) (i : Identity) (now : Word)
    (hi : x.ident = some i) (hp : x.peer = some p)
    (ht : p.turn now [.bind, .motion, .docking, .poll] = (some m, q)) :
    x.afterTurn now = { x with peer := some q, docking := x.docking.noteSent m.msg } ∧
      x.turnFrames now = [peerFrame i m.tag m.msg] := by
  cases x
  simp only at hi hp
  subst hi hp
  unfold Slot.afterTurn Slot.turnFrames Slot.turn
  simp [ht, Docking.noteSent, Docking.commandIs]

theorem pumpSlot_eq (s : P60) (k : SlotId) :
    s.pumpSlot k = { s with
      out := s.out ++ (s.slot k).turnFrames s.clock
      slots := s.slots.set k ((s.slot k).afterTurn s.clock) } := by
  have same : ∀ y f, y = s.slot k → f = [] →
      s = { s with out := s.out ++ f, slots := s.slots.set k y } := by
    rintro _ _ rfl rfl
    rw [List.append_nil]
    exact (set_slot_self s k).symm
  unfold P60.pumpSlot
  rcases hi : (s.slot k).ident with _ | i
  · exact same _ _ (by simp [Slot.afterTurn, Slot.turn, hi]) (by simp [Slot.turnFrames, Slot.turn, hi])
  rcases hp : (s.slot k).peer with _ | p
  · exact same _ _ (by simp [Slot.afterTurn, Slot.turn, hi, hp]) (by simp [Slot.turnFrames, Slot.turn, hi, hp])
  simp only [pump_eq_turn, slotPlaces]
  rcases ht : (p.turn s.clock [.bind, .motion, .docking, .poll]).1 with _ | m
  · have h := afterTurn_of_idle _ p i s.clock hi hp ht
    exact same _ _ h.1 h.2
  · have e : p.turn s.clock [.bind, .motion, .docking, .poll] =
        (some m, (p.turn s.clock [.bind, .motion, .docking, .poll]).2) := Prod.ext ht rfl
    obtain ⟨h1, h2⟩ := afterTurn_of_sent _ p _ m i s.clock hi hp e
    rw [h1, h2]
    rfl

/-- The turns of slots that stand apart in a list. -/
theorem pumpSlots_eq (l : List SlotId) (h : l.Nodup) (s : P60) :
    (l.foldl P60.pumpSlot s).out = s.out ++ l.flatMap (fun k => (s.slot k).turnFrames s.clock) ∧
      (∀ k, (l.foldl P60.pumpSlot s).slot k =
        if k ∈ l then (s.slot k).afterTurn s.clock else s.slot k) ∧
      l.foldl P60.pumpSlot s =
        { s with out := (l.foldl P60.pumpSlot s).out, slots := (l.foldl P60.pumpSlot s).slots } := by
  induction l generalizing s with
  | nil => simp
  | cons k l ih =>
    obtain ⟨hk, hl⟩ := List.nodup_cons.1 h
    have e := pumpSlot_eq s k
    have hs : ∀ j, (s.pumpSlot k).slot j = if k = j then (s.slot k).afterTurn s.clock else s.slot j := by
      intro j
      rw [e]
      exact slot_setSlot s k j _
    obtain ⟨h1, h2, h3⟩ := ih hl (s.pumpSlot k)
    have hc : (s.pumpSlot k).clock = s.clock := by rw [e]
    simp only [List.foldl_cons]
    refine ⟨?_, ?_, ?_⟩
    · rw [h1, hc, List.flatMap_cons, ← List.append_assoc]
      have ho : (s.pumpSlot k).out = s.out ++ (s.slot k).turnFrames s.clock := by rw [e]
      rw [ho]
      congr 1
      rw [List.flatMap_def, List.flatMap_def]
      congr 1
      refine List.map_congr_left ?_
      intro j hj
      rw [hs, if_neg (by rintro rfl; exact hk hj)]
    · intro j
      rw [h2, hc, hs]
      by_cases hj : k = j
      · subst hj
        simp [hk]
      · simp [hj, Ne.symm hj]
    · generalize l.foldl P60.pumpSlot (s.pumpSlot k) = t at h3 ⊢
      rw [h3, e]

/-- The stranger of an identity after its turn, the other strangers left. -/
theorem pumpStranger_eq (s : P60) (a b : List Stranger) (x : Stranger) (h : s.strangers = a ++ x :: b)
    (ha : ∀ y ∈ a, y.ident ≠ x.ident) (hb : ∀ y ∈ b, y.ident ≠ x.ident) :
    s.pumpStranger x.ident = { s with
      out := s.out ++ x.turnFrames s.clock
      strangers := a ++ { x with peer := (x.turn s.clock).2 } :: b } := by
  have find : s.stranger? x.ident = some x := by
    unfold P60.stranger?
    rw [h, List.find?_append, List.find?_eq_none.2 (by simpa using ha)]
    simp
  have upd : ∀ g : Stranger → Stranger, s.strangers.map (fun y => if y.ident = x.ident then g y else y) =
      a ++ g x :: b := by
    intro g
    rw [h, List.map_append, List.map_cons, if_pos rfl]
    congr 1
    · exact (List.map_congr_left (fun y hy => if_neg (ha y hy))).trans (List.map_id' _)
    · congr 1
      exact (List.map_congr_left (fun y hy => if_neg (hb y hy))).trans (List.map_id' _)
  unfold P60.pumpStranger
  rw [find]
  simp only [pump_eq_turn, strangerPlaces, Stranger.turnFrames, Stranger.turn]
  rcases ht : (x.peer.turn s.clock [.standDown, .poll]).1 with _ | m
  · rw [turn_of_none _ _ _ ht]
    simp [← h]
  · simp only [Option.map_some, Option.toList_some]
    have := upd (fun y => { y with peer := (x.peer.turn s.clock [.standDown, .poll]).2 })
    simp only [P60.updStranger, P60.send, this]

theorem pumpStrangers_eq (l before : List Stranger) (s : P60) (h : s.strangers = before ++ l)
    (hn : (s.strangers.map (·.ident)).Nodup) :
    (l.map (·.ident)).foldl P60.pumpStranger s = { s with
      out := s.out ++ l.flatMap (·.turnFrames s.clock)
      strangers := before ++ l.map (fun x => { x with peer := (x.turn s.clock).2 }) } := by
  induction l generalizing s before with
  | nil => simp [← h]
  | cons x l ih =>
    have hn' := hn
    rw [h, List.map_append, List.map_cons, List.nodup_append] at hn'
    obtain ⟨_, hx, hd⟩ := hn'
    have e := pumpStranger_eq s before l x h
      (fun y hy => hd y.ident (List.mem_map_of_mem hy) x.ident (List.mem_cons_self ..))
      (fun y hy he => (List.nodup_cons.1 hx).1 (he ▸ List.mem_map_of_mem hy))
    rw [List.map_cons, List.foldl_cons,
      ih (before ++ [{ x with peer := (x.turn s.clock).2 }]) (s.pumpStranger x.ident) (by rw [e]; simp)
        (by rw [e]; rw [h] at hn; simpa using hn), e]
    simp

theorem mem_allSlots (k : SlotId) : k ∈ allSlots := by
  revert k
  decide

/-- What the transporter link's turn makes of a state. -/
theorem pumpAll_eq (s : P60) (h : s.strangersDistinct) :
    s.pumpAll = { s with
      out := s.out ++ s.slots.toList.flatMap (·.turnFrames s.clock) ++ s.strangers.flatMap (·.turnFrames s.clock)
      slots := s.slots.map (·.afterTurn s.clock)
      strangers := s.strangers.map (fun x => { x with peer := (x.turn s.clock).2 }) } := by
  obtain ⟨h1, h2, h3⟩ := pumpSlots_eq allSlots (by decide) s
  have hl : s.slots.toList = allSlots.map s.slot := by
    apply List.ext_getElem
    · simp [allSlots]
    · intro i hi _
      have hi' : i < 6 := by simpa using hi
      rcases i with _ | _ | _ | _ | _ | _ | i
      all_goals first | rfl | omega
  have hs : (allSlots.foldl P60.pumpSlot s).slots = s.slots.map (·.afterTurn s.clock) := by
    apply Vector.ext
    intro i hi
    have e := h2 ⟨i, hi⟩
    rw [if_pos (mem_allSlots _)] at e
    simpa only [P60.slot, get_eq_getElem, Vector.getElem_map] using e
  have hf : s.slots.toList.flatMap (·.turnFrames s.clock) =
      allSlots.flatMap (fun k => (s.slot k).turnFrames s.clock) := by
    rw [hl, List.flatMap_map]
  have e : allSlots.foldl P60.pumpSlot s = { s with
      out := s.out ++ s.slots.toList.flatMap (·.turnFrames s.clock)
      slots := s.slots.map (·.afterTurn s.clock) } := by
    rw [h3, h1, hs, hf]
  have hstr : (s.strangers.map (·.ident)) =
      ((allSlots.foldl P60.pumpSlot s).strangers.map (·.ident)) := by rw [e]
  unfold P60.pumpAll
  rw [pumpStrangers_eq s.strangers [] (allSlots.foldl P60.pumpSlot s) (by rw [e]; rfl) (hstr ▸ h), e]
  rfl

/-- With no hand-over check owed and no scan trigger met, a command's end is the turn of the transporter link and
of the attention set. -/
theorem settle_eq_linksTurn (s : P60) (h : s.tasks = []) (h' : s.scanDue = false) (hn : s.strangersDistinct) :
    s.settle = s.linksTurn := by
  have e : s.settle = s.pumpAll.syncAttention := by
    unfold P60.settle
    rw [handOvers_of_none s h, takeTrigger_of_none s h', handOvers_of_none s h]
  have c := condsNow_of_turned (turned_pumpAll s)
  rw [e]
  unfold P60.syncAttention
  rw [c, pumpAll_eq s hn]
  rfl

end Sys2Proof.Machine
end

