-- ==== Sys2Proof/Tests/Slice0.lean ====
section
/-! SUPPORT. The model's own tests: the checks on a command with an ill-formed term for each, one witness
theorem for the hypotheses of each statement of Certificates/Slice0/Obligations.lean (at the first and last
numbers of their ranges), and small steps whose results the rules give. -/

namespace Sys2Proof.Tests

open Sys2Proof.Machine

set_option Elab.async false

/-! ## The checks on a command -/

theorem test_wf_refuses_tag_0 : (Instr.identify 0).wf = false := by decide

theorem test_wf_refuses_long_payloads :
    (Instr.requestArrival 1 1 (List.replicate 249 0)).wf = false ∧
      (Instr.malformedRequest 1 1 (List.replicate 249 0)).wf = false ∧
      (Instr.planRecord 1 (List.replicate 249 0)).wf = false ∧
      (Instr.planRecord 1 (List.replicate 248 0)).wf = true := by decide +kernel

theorem test_wf_refuses_misspelt_selectors :
    (Instr.queryPlan 1 (.other 1)).wf = false ∧ (Instr.queryPlan 1 (.other 4)).wf = false ∧
      (Instr.queryPlan 1 (.other 5)).wf = true := by decide

theorem test_wf_refuses_long_lists :
    (Instr.inhibitSections 1 (List.replicate 248 1)).wf = false ∧
      (Instr.permitSections 1 (List.replicate 248 1)).wf = false ∧
      (Instr.setAcceptance 1 (List.replicate 248 ⟨none, none, none⟩)).wf = false ∧
      (Instr.insertOrders 1 .head [⟨1, 1, 1, 1, 1, List.replicate 240 1⟩]).wf = false := by decide +kernel

theorem test_wf_refuses_misspelt_positions :
    (Instr.insertOrders 1 (.other 1) []).wf = false ∧ (Instr.moveOrder 1 1 (.other 3)).wf = false ∧
      (Instr.placeTelescope 1 1 (.other 2)).wf = false := by decide

theorem test_wf_refuses_field_addresses_out_of_range :
    (Instr.detectorReport 0 1 .clear).wf = false ∧ (Instr.turnoutReport 248 1 .normal).wf = false ∧
      (Instr.clampReport 0 1 .locked).wf = false ∧ (Instr.fieldPollDue 248).wf = false ∧
      (Instr.fieldPollDue 247).wf = true := by decide

theorem test_wf_refuses_maker_0 :
    (Instr.announce ⟨⟨0, 1⟩, 1, 1, 0x21, 0, 0, 0, 0, 0, false, .zero, .zero⟩).wf = false ∧
      (Instr.ack ⟨0, 1⟩ 1).wf = false ∧ (Instr.ack ⟨255, 0⟩ 1).wf = true ∧
      (Instr.position ⟨0, 1⟩ 1 ⟨.zero, .zero, .forward, 0, true⟩).wf = false ∧
      (Instr.transporterReplyTimeout ⟨0, 1⟩).wf = false := by decide

theorem test_wf_refuses_fault_code_0 :
    (Instr.fault ⟨1, 1⟩ 1 0).wf = false ∧ (Instr.fault ⟨1, 1⟩ 1 255).wf = true := by decide

theorem test_wf_refuses_timers_of_no_section_or_turnout :
    (Instr.minimumHoldEnd 0).wf = false ∧ (Instr.clearingTimerExpiry 241).wf = false ∧
      (Instr.provingTimerExpiry 0).wf = false ∧ (Instr.entryConfirmationExpiry 241).wf = false ∧
      (Instr.throwTimerExpiry 49).wf = false ∧ (Instr.throwTimerExpiry 48).wf = true := by decide

/-! ## A small line

Section 1 is a spur with pad 160; section 240 is a turnout section with turnout 48, whose normal leg leads
into the spur. Feeder 1 feeds the spur and feeder 4 the turnout section. -/

def line : Plan :=
  { records := [[2, 48, 240, 20], [4, 3, 0xE8]], id := 9, crc := 0, margin := 1000
    sections := [⟨1, .spur, 60000, 800, 0, 1, 1000, some ⟨240, .bNormal⟩, none, none, 0, 160⟩,
      ⟨240, .turnout, 60000, 800, 3, 247, 1000, none, some ⟨1, .a⟩, none, 48, 0⟩]
    turnouts := [⟨48, 240, 20⟩], pads := [⟨160, 1, 30000, 21⟩] }

/-- The line, in service since long ago, with nothing on it. -/
def idle : P60 :=
  { P60.initial with
    clock := 100000, plan := .active line, sweep := .done
    sections := [⟨1, .free, false, false, .clear, []⟩, ⟨240, .free, false, false, .clear, []⟩]
    turnouts := [⟨48, 240, .at .normal, .report .normal, 0⟩]
    pads := [⟨160, .locked, none⟩]
    units := [⟨1, .detector, 1, 0, none, some 99500, none, true⟩, ⟨20, .turnout, 48, 0, none, some 99500, none, true⟩,
      ⟨21, .pad, 160, 0, none, some 99500, none, true⟩, ⟨247, .detector, 240, 0, none, some 99500, none, true⟩]
    feeders := Vector.replicate 4 ⟨.enabled, false, 0, 0, []⟩ }

/-- A state with no command waiting. -/
def at_ (p : P60) : State := ⟨[], p⟩

/-- An empty queue, no write and no RESTART: any request's turn has come. -/
theorem turn_of {p : P60} (r : Request) (free : p.restart = none := by rfl)
    (write : p.serving = false := by rfl) (queue : p.requests = [] := by rfl) : p.turnOf r :=
  ⟨free, write, .inl queue⟩

/-- Section 240 with a record of its own; section 1 free. -/
def with240 (x : SectionRec) : P60 := { idle with sections := [⟨1, .free, false, false, .clear, []⟩, x] }

/-- Section 240's record in a state. -/
def rec240 (o : Occupancy) : SectionRec := ⟨240, o, false, false, .clear, [5]⟩

/-- A possession since time t. -/
def held (t : Word) : Holding := ⟨.possession, none, none, t, false, false, none⟩

/-- Turnout 48 in a state. -/
def with48 (x : TurnoutState) : P60 := { idle with turnouts := [⟨48, 240, x, .report .normal, 0⟩] }

/-- A transporter, and its peer record with a POLL unanswered. -/
def carrier : Identity := ⟨255, 1⟩

def polled : Peer :=
  { Peer.fresh with
    attempt := some ⟨.poll, .poll, 7, 200⟩, poll := some ⟨.poll, 7, true, none⟩, lastTag := 7
    lastPoll := some 99900 }

/-- The transporter bound to slot 6, in a state, standing with its front in section 240. -/
def slot6 (st : SlotState) : Slot :=
  { Slot.initial with
    status := st, ident := some carrier, peer := some polled
    figures := ⟨8000, 1000, 100, 1000, 100, [false, false, false, false, false]⟩
    front := ⟨240, 9000⟩, rear := ⟨240, 1000⟩, overlap := some (240, 240)
    motion := { Motion.initial with standing := true, lastReport := some 99000 } }

/-- The idle line with slot 6 bound. -/
def bound (st : SlotState) : P60 := idle.withSlot 5 (fun _ => slot6 st)

/-- Order 1 of slot 6, with telescope 64 along 240 and 1 to pad 160. -/
def order (kind : OrderKind) (st : OrderState) : Order :=
  ⟨1, kind, 5, 64, 160, [240, 1], st, 1, 0, false⟩

/-- Slot 6 bound with that order in hand. -/
def busy (status : SlotState) (st : OrderState) : P60 := { bound status with orders := [order .fetch st] }

/-- Its docking record while a report is awaited and the command for it has been transmitted. -/
def awaiting (p : P60) (a : Awaiting) : P60 :=
  p.withSlot 5 (fun x => { x with docking := ⟨1, 160, a, .none, .running 100, true⟩ })

/-- An exchange with a unit, tag 7. -/
def asking (p : P60) (address : Nat) : P60 := { p with exchange := some ⟨address, .poll, 7, 100, false⟩ }

/-- Slot 6 in RUNNING with its authority to the far end of section 240, which it owns. -/
def running : P60 :=
  { busy .moving (.active .running none) with
    slots := idle.slots.set 5 { slot6 .moving with
      progress := ⟨1, 1, none, some (some ⟨240, 60000, .sectionEnd⟩), 1⟩
      authority := { Authority.initial with state := .given ⟨240, 60000, .sectionEnd⟩ } }
    sections := [⟨1, .free, false, false, .clear, []⟩,
      rec240 (.occupied ⟨.slot 5, some .a, some .normal, 0, true, false, none⟩)] }

/-! ## Statements whose hypotheses are met -/

theorem test_meets_StepRunsTheFrontCommand : (⟨[.windHoldAsserted], idle⟩ : State).pending = [.windHoldAsserted] := rfl

theorem test_meets_StepWithoutCommands :
    (at_ idle).pending = [] ∧ idle.due? = none ∧
      { idle with restart := some .stopping }.due? = some .restartReset := by decide +kernel

theorem test_meets_RequestsReadBack :
    let c := Instr.insertOrders 255 (.after 65535) [⟨1, 1, 6, 64, 160, List.replicate 230 240⟩]
    c.wf = true ∧ c.tag?.isSome ∧ (requestOf c).isSome := by decide +kernel

theorem test_meets_AttentionAgreesAfterEveryStep :
    let p : P60 := { idle with windInput := true, conds := [.windHold] }
    (at_ p).attentionAgrees ∧ ∃ t, step (at_ p) = .next t := ⟨by unfold State.attentionAgrees; decide +kernel, _, rfl⟩

theorem test_meets_QueueAndListsStayBounded :
    let p : P60 := { idle with
      requests := List.replicate 8 ⟨1, 0x01, []⟩
      strangers := List.replicate 8 ⟨⟨9, 9⟩, 0, 0, 0, .unaccepted, 0, .fresh⟩
      orders := List.replicate 64 (order .fetch .queued) }
    (at_ p).queueBounded ∧ (at_ p).strangersBounded ∧ (at_ p).ordersBounded ∧ ∃ t, step (at_ p) = .next t :=
  ⟨by unfold State.queueBounded; decide +kernel, by unfold State.strangersBounded; decide +kernel,
    by unfold State.ordersBounded; decide +kernel, _, rfl⟩

theorem test_meets_PowerOnComesUpFromStorage :
    crc32 (List.flatten [[2, 48, 240, 20]]) ≠ 0 ∧ crc32 (List.flatten []) = 0 := by decide +kernel

theorem test_meets_RestartRunsToTheReset :
    idle.turnOf ⟨255, 0x03, []⟩ ∧
      ([TxRecord.attention, .reply ⟨1, 0x81, [0]⟩].all (fun r => !r.isRestart)) = true ∧
      (let p : P60 := { idle with
        restart := some .replying
        opsTx := [.attention, .reply ⟨1, 0x81, [0]⟩] ++ .reply ⟨255, 0x83, [0]⟩ :: [.attention] }
      p.restart = some .replying ∧
        p.opsTx = [.attention, .reply ⟨1, 0x81, [0]⟩] ++ .reply ⟨255, 0x83, [0]⟩ :: [.attention]) ∧
      (let p : P60 := { idle with restart := some .stopping }
      p.restart = some .stopping ∧ p.allStop = none) := ⟨turn_of _, by decide, ⟨rfl, rfl⟩, rfl, rfl⟩

theorem test_meets_IdentifyReply : idle.turnOf ⟨255, 0x01, []⟩ ∧ idle.transferring = false := ⟨turn_of _, rfl⟩

theorem test_meets_RequestsArriveOrAreRefused :
    (List.replicate 248 (0 : Byte)).length ≤ 248 ∧ (List.replicate 7 (⟨1, 1, []⟩ : Request)).length < 8 ∧
      8 ≤ (List.replicate 8 (⟨1, 1, []⟩ : Request)).length ∧ Request.malformed ⟨1, 0x7F, []⟩ = true ∧
      Request.malformed ⟨1, 0x11, [4, 3, 0xE8]⟩ = false ∧ Request.malformed ⟨1, 0x01, [0]⟩ = true ∧
      Request.malformed ⟨0, 0x01, []⟩ = true ∧ Request.malformed ⟨1, 0x07, []⟩ = true ∧
      Request.malformed ⟨1, 0x18, [1, 2]⟩ = true ∧ Request.malformed ⟨1, 0x18, [1]⟩ = false ∧
      Request.malformed ⟨1, 0x48, [1]⟩ = true ∧ Request.malformed ⟨1, 0x05, [0, 0, 0]⟩ = true ∧
      Request.malformed ⟨1, 0x10, []⟩ = true ∧ idle.turnOf ⟨1, 0x7F, []⟩ := by
  refine ⟨?_, ?_, ?_, ?_, ?_, ?_, ?_, ?_, ?_, ?_, ?_, ?_, ?_, turn_of _⟩ <;> decide +kernel

theorem test_meets_QueryAttentionReturnsAndClears :
    idle.turnOf ⟨255, 0x02, []⟩ ∧ idle.transferring = false := ⟨turn_of _, rfl⟩

theorem test_meets_ReceiversHuntForFrames :
    idle.rx .operations = [] ∧ (0xC5 : Byte) ∉ ([0xC4, 0xC6] : List Byte) ∧
      crc16 (2 :: [1, 0xC5]) ≠ (0 : Byte) ++ (0 : Byte) ∧ ([1, 0xC5] : List Byte).length = (2 : Byte).toNat ∧
      (∃ h l : Byte, crc16 (250 :: List.replicate 250 0xC5) ≠ h ++ l) ∧
      (List.replicate 250 (0xC5 : Byte)).length = (250 : Byte).toNat ∧
      { idle with opsRx := [0xC5, 2] }.rx .operations = [0xC5, 2] := by
  refine ⟨rfl, by decide, by decide +kernel, rfl, ?_, List.length_replicate, rfl⟩
  by_cases h : crc16 (250 :: List.replicate 250 0xC5) = (0 : Byte) ++ (0 : Byte)
  · exact ⟨0, 1, by rw [h]; decide⟩
  · exact ⟨0, 0, h⟩

theorem test_meets_AttentionRecordsAndGains :
    ([TxRecord.reply ⟨1, 0x81, [0]⟩].all (fun r => r != .attention && !r.isRestart)) = true := by decide

/-- A load of the line's two records, complete or with one to come. -/
def loading (n : Nat) : P60 :=
  { P60.initial with plan := .loading ⟨2, 0, 9⟩ (line.records.take n) }

theorem test_meets_PlanLoadsRecordByRecord :
    idle.turnOf ⟨1, 0x10, b2 1 ++ b4 0 ++ b4 9⟩ ∧ idle.turnOf ⟨1, 0x10, b2 2 ++ b4 0 ++ b4 9⟩ ∧
      idle.turnOf ⟨1, 0x10, b2 449 ++ b4 0 ++ b4 9⟩ ∧ idle.turnOf ⟨1, 0x10, b2 450 ++ b4 0 ++ b4 9⟩ ∧
      (∀ n id, { idle with scanning := true }.turnOf ⟨1, 0x10, b2 n ++ b4 0 ++ b4 id⟩) ∧
      ((∀ x ∈ idle.sections, x.occ.owner? = none) ∧ (∀ o ∈ idle.orders, o.state.live = false) ∧
        idle.throwQueue = [] ∧ ∀ t ∈ idle.turnouts, t.state.slot? = none) ∧
      (∃ x ∈ (with240 (rec240 (.occupied (held 0)))).sections, x.occ.owner?.isSome) ∧
      ((busy .idle .queued).turnOf ⟨1, 0x10, b2 2 ++ b4 0 ++ b4 9⟩ ∧ (busy .idle .queued).scanning = false ∧
        (∀ o ∈ (busy .idle .queued).orders, o.state = .queued ∧ o.state.live = false) ∧
        ∀ x ∈ (busy .idle .queued).sections, x.occ.owner? = none) ∧
      (loading 1).turnOf ⟨1, 0x11, [4, 3, 0xE8]⟩ ∧ (loading 2).turnOf ⟨1, 0x11, []⟩ ∧
      idle.turnOf ⟨1, 0x11, [2, 48, 240, 20]⟩ := by
  refine ⟨turn_of _, turn_of _, turn_of _, turn_of _, fun _ _ => turn_of _, ?_, ?_, ⟨turn_of _, rfl, ?_, ?_⟩, turn_of _,
    turn_of _, turn_of _⟩ <;> decide +kernel

/-- R7's table: a count of 1 is OUT_OF_RANGE although the list is held, and one of 2 is LIST_HELD. -/
theorem test_planBegin_judges_ranges_before_the_hold :
    (planBegin 1 0 9 { idle with scanning := true }).2 = some ⟨.outOfRange, []⟩ ∧
      (planBegin 2 0 9 { idle with scanning := true }).2 = some ⟨.listHeld, []⟩ := ⟨rfl, rfl⟩

/-- A plain section's record: its number, its detector's address, and its A join. -/
def plainBytes (n detector join code : Byte) : List Byte :=
  [1, n, 1, 0, 0, 0xEA, 0x60, 3, 0x20, 1, detector, 0, 0, 0, 0, join, code, 0, 0, 0, 0, 0, 0]

/-- A spur's record, with its pad, joined A to A with another spur. -/
def spurBytes (n pad join : Byte) : List Byte :=
  [1, n, 3, 0, 0, 0xEA, 0x60, 3, 0x20, 1, n, 0, 0, 0, 0, join, 1, 0, 0, 0, 0, 0, pad]

/-- A margin of 1,000 mm. -/
def marginBytes : List Byte := [4, 3, 0xE8]

/-- Loads that pass every check before one and fail that one: RANGE at record 1, REFERENCE at record 3 (an address
used twice), SYMMETRY at record 1, CORRESPONDENCE at record 1 (the two pads changed over), none. -/
def misranged : List (List Byte) := [plainBytes 1 248 0 0, marginBytes]
def doubled : List (List Byte) := [plainBytes 1 1 0 0, marginBytes, plainBytes 2 1 0 0]
def unreturned : List (List Byte) := [plainBytes 1 1 2 1, plainBytes 2 2 0 0, marginBytes]
def crossed : List (List Byte) :=
  [spurBytes 1 1 2, spurBytes 2 2 1, [3, 1, 2, 0, 0, 0x75, 0x30, 101], [3, 2, 1, 0, 0, 0x75, 0x30, 102], marginBytes]
def sound : List (List Byte) := [plainBytes 240 247 0 0, marginBytes]

/-- The plan of a load, and the header that announces it. -/
def planIn (l : List (List Byte)) : Plan := planOf 9 (crc32 l.flatten) l
def headOf (l : List (List Byte)) : LoadHeader := ⟨l.length, crc32 l.flatten, 9⟩

theorem test_meets_SectionNumbersStayDistinct :
    let p : P60 := { idle with
      nvm := { idle.nvm with plan := some ⟨sound, 9, crc32 sound.flatten⟩ }, writes := [.planCommit (planIn sound)] }
    (at_ p).sectionsDistinct ∧ ∃ t, step (at_ p) = .next t := by
  refine ⟨⟨by unfold P60.sectionsDistinct; decide +kernel, ?_, ?_⟩, _, rfl⟩
  · intro q h
    cases h
    unfold Plan.sectionsDistinct
    decide +kernel
  · intro q h
    cases List.mem_singleton.1 h
    unfold Plan.sectionsDistinct
    decide +kernel

theorem test_meets_PlanIsCheckedAndCommitted :
    (loading 1).turnOf ⟨1, 0x12, []⟩ ∧ idle.turnOf ⟨1, 0x12, []⟩ ∧ (loading 1).transferring = false ∧
      (loading 1).checkPlan ⟨2, 0, 9⟩ (line.records.take 1) = some (.count, 0) ∧
      idle.checkPlan ⟨2, crc32 sound.flatten + 1, 9⟩ sound = some (.crc, 0) ∧
      firstFails (fun _ r => r.ranged) (misranged.map readRecord) 1 ∧
      (passesAll (fun _ r => r.ranged) (doubled.map readRecord) ∧
        firstFails (planIn doubled).referring (doubled.map readRecord) 3) ∧
      (passesAll (fun _ r => r.ranged) (unreturned.map readRecord) ∧
        passesAll (planIn unreturned).referring (unreturned.map readRecord) ∧
        firstFails (fun _ r => (planIn unreturned).returning r) (unreturned.map readRecord) 1) ∧
      (passesAll (fun _ r => r.ranged) (crossed.map readRecord) ∧
        passesAll (planIn crossed).referring (crossed.map readRecord) ∧
        passesAll (fun _ r => (planIn crossed).returning r) (crossed.map readRecord) ∧
        firstFails (fun _ r => (planIn crossed).corresponding r) (crossed.map readRecord) 1) ∧
      (passesAll (fun _ r => r.ranged) (sound.map readRecord) ∧
        passesAll (planIn sound).referring (sound.map readRecord) ∧
        passesAll (fun _ r => (planIn sound).returning r) (sound.map readRecord) ∧
        passesAll (fun _ r => (planIn sound).corresponding r) (sound.map readRecord)) ∧
      (let p : P60 := { P60.initial with plan := .loading (headOf sound) sound }
      p.turnOf ⟨1, 0x12, []⟩ ∧ p.checkPlan (headOf sound) sound = none) ∧
      (idle.setLocation 64 (.pad 160)).checkPlan (headOf sound) sound = some (.custody, 64) ∧
      (let p : P60 := { idle with writes := [.planCommit line], requests := [⟨1, 0x12, []⟩] }
      p.writes = [.planCommit line] ∧ p.requests = [⟨1, 0x12, []⟩]) := by
  have range := fun (l : List PlanRec) => passesAll_iff (ok := fun _ r => r.inRange) (fun _ r => inRange_iff r) l
  have refer := fun (p : Plan) (l : List PlanRec) =>
    passesAll_iff (ok := fun before r => r.fresh before && p.refers r) (referring_iff p) l
  have back := fun (p : Plan) (l : List PlanRec) =>
    passesAll_iff (ok := fun _ r => r.section?.all p.symmetric) (fun _ r => returning_iff p r) l
  have match' := fun (p : Plan) (l : List PlanRec) =>
    passesAll_iff (ok := fun _ r => p.corresponds r) (fun _ r => corresponding_iff p r) l
  refine ⟨turn_of _, turn_of _, rfl, by decide +kernel, by decide +kernel, ?_, ⟨(range _).1 ?_, ?_⟩,
    ⟨(range _).1 ?_, (refer _ _).1 ?_, ?_⟩, ⟨(range _).1 ?_, (refer _ _).1 ?_, (back _ _).1 ?_, ?_⟩,
    ⟨(range _).1 ?_, (refer _ _).1 ?_, (back _ _).1 ?_, (match' _ _).1 ?_⟩, ⟨turn_of _, ?_⟩, ?_, rfl, rfl⟩
  case refine_1 =>
    exact (firstFails_iff (ok := fun _ r => r.inRange) (fun _ r => inRange_iff r) _ _).1 (by decide +kernel)
  case refine_3 =>
    exact (firstFails_iff (ok := fun before r => r.fresh before && (planIn doubled).refers r)
      (referring_iff _) _ _).1 (by decide +kernel)
  case refine_6 =>
    exact (firstFails_iff (ok := fun _ r => r.section?.all (planIn unreturned).symmetric)
      (fun _ r => returning_iff _ r) _ _).1 (by decide +kernel)
  case refine_10 =>
    exact (firstFails_iff (ok := fun _ r => (planIn crossed).corresponds r)
      (fun _ r => corresponding_iff _ r) _ _).1 (by decide +kernel)
  all_goals decide +kernel

theorem test_meets_QueryPlanReturnsThePlan :
    (PlanSelector.other 5).wf = true ∧ (PlanSelector.pad 160).wf = true ∧
      idle.turnOf ⟨1, 0x13, selectorBytes (.turnout 48)⟩ ∧ (loading 1).turnOf ⟨1, 0x13, selectorBytes .summary⟩ ∧
      idle.transferring = false := ⟨by decide, by decide, turn_of _, turn_of _, rfl⟩

theorem test_meets_RequestsAreScreened :
    idle.turnOf ⟨1, 0x18, [241]⟩ ∧ idle.turnOf ⟨1, 0x20, [48, 3]⟩ ∧ idle.turnOf ⟨1, 0x45, [7]⟩ ∧
      idle.plan?.isSome ∧ P60.initial.plan?.isNone ∧ P60.initial.turnOf ⟨1, 0x18, [240]⟩ ∧
      idle.section? 239 = none ∧ idle.turnout? 1 = none ∧ (idle.planPad? 1).isNone ∧
      idle.transferring = false ∧ idle.order? 0 = none ∧
      (∃ o ∈ (busy .waiting (.active .waiting none)).orders, o.state.live = true ∧ o.telescope = 64) ∧
      (idle.planPad? 160).isSome ∧
      idle.turnOf ⟨1, 0x39, [64] ++ targetBytes (.other 4)⟩ ∧ slotOf 6 = some 5 ∧ (idle.slot 5).ident = none := by
  refine ⟨turn_of _, turn_of _, turn_of _, ?_, ?_, turn_of _, ?_, ?_, ?_, ?_, ?_, ?_, ?_, turn_of _, ?_⟩ <;> decide +kernel

/-- Section 240 is one of the plan's, whatever its state, and a request's turn has come there. -/
theorem meets_section (o : Occupancy) (r : Request) :
    (with240 (rec240 o)).turnOf r ∧ (with240 (rec240 o)).hasSection 240 (rec240 o) :=
  ⟨turn_of _, rfl, by decide, by decide, rfl⟩

theorem test_meets_PossessSectionTakesAFreeSection :
    (∀ o, (with240 (rec240 o)).turnOf ⟨1, 0x18, [240]⟩ ∧ (with240 (rec240 o)).hasSection 240 (rec240 o)) ∧
      (∀ t, (with240 (rec240 .free)).turnoutIn? 240 = some t → t.state.slot? = none) ∧
      (with48 (.moving .reverse .two 10)).hasSection 240 ⟨240, .free, false, false, .clear, []⟩ ∧
      (∃ t, (with48 (.moving .reverse .two 10)).turnoutIn? 240 = some t ∧ t.state.slot?.isSome) :=
  ⟨fun o => meets_section o _, fun t h => by cases h; rfl, ⟨rfl, by decide, by decide, rfl⟩, _, rfl, rfl⟩

theorem test_meets_ReleaseSectionGivesBackAPossession :
    (∀ o, (with240 (rec240 o)).turnOf ⟨1, 0x19, [240]⟩ ∧ (with240 (rec240 o)).hasSection 240 (rec240 o)) ∧
      idle.elapsed 98000 = 2000 ∧ idle.elapsed 98001 = 1999 :=
  ⟨fun o => meets_section o _, by decide +kernel, by decide +kernel⟩

theorem test_meets_InhibitAndPermitMarkTheList :
    idle.turnOf ⟨1, 0x1A, b1 2 ++ [1, 240]⟩ ∧ idle.turnOf ⟨1, 0x1B, b1 32 ++ List.replicate 32 1⟩ ∧
      idle.turnOf ⟨1, 0x1A, b1 0⟩ ∧ P60.initial.plan?.isNone ∧ idle.plan?.isSome ∧
      (∀ m ∈ ([1, 240] : List Byte), ∃ x, idle.hasSection m x) ∧ idle.section? 239 = none ∧
      (∃ x, (with240 { rec240 .free with inhibit := true }).hasSection 240 x ∧ x.inhibit = true ∧ x.occ = .free ∧
        x.waiters ≠ []) := by
  refine ⟨turn_of _, turn_of _, turn_of _, rfl, rfl, ?_, rfl, _, ⟨rfl, by decide, by decide, rfl⟩, rfl, rfl, nofun⟩
  intro m h
  rcases List.mem_cons.1 h with rfl | h
  · exact ⟨_, rfl, by decide, by decide, rfl⟩
  · cases List.mem_singleton.1 h
    exact ⟨_, rfl, by decide, by decide, rfl⟩

theorem test_meets_ResetSectionAndSectionTimers (o : Occupancy) (v : Reading) :
    (with240 (rec240 o)).turnOf ⟨1, 0x1C, [240]⟩ ∧ (with240 (rec240 o)).hasSection 240 (rec240 o) ∧
      (with240 { rec240 o with reading := v }).section? 240 = some { rec240 o with reading := v } ∧
      (with240 (rec240 o)).sectionsDistinct ∧
      (Occupancy.occupied { held 0 with proving := some 3000 }).holding? = some { held 0 with proving := some 3000 } :=
  ⟨(meets_section o _).1, (meets_section o ⟨0, 0, []⟩).2, rfl, by simp [P60.sectionsDistinct, with240, rec240], rfl⟩

theorem test_meets_DetectorReportsDriveTheSection (o : Occupancy) :
    (∃ e u, (asking (with240 (rec240 o)) 247).exchangeWith 247 7 .detector e u ∧ u.num = 240) ∧
      (asking (with240 (rec240 o)) 247).section? 240 = some (rec240 o) ∧
      (asking (with240 (rec240 o)) 247).sectionsDistinct ∧
      (bound .waiting).overlaps 5 240 = true ∧ idle.overlaps 5 240 = false ∧
      (∀ st, idle.liveOrder? 5 = none ∧ (order .fetch st).route = [240, 1] ∧ indexIn 240 [240, 1] = 1 ∧
        ¬ 1 < ((bound .moving).slot 5).progress.rearIndex) :=
  ⟨⟨_, _, ⟨rfl, rfl, rfl, rfl, rfl⟩, rfl⟩, rfl, by simp [P60.sectionsDistinct, asking, with240, rec240],
    by decide +kernel, by decide +kernel, fun _ => ⟨rfl, rfl, by decide, by decide +kernel⟩⟩

/-- Slots 2 to 6 each waiting on the next, the last on slot 1. -/
def ring : P60 :=
  ([1, 2, 3, 4, 5] : List SlotId).foldl (fun p k => p.withSlot k (fun x =>
    { x with progress := { x.progress with wait := some ⟨k.val, .slot (k + 1), 0⟩ } })) idle

/-- The members of the ring, with their waits. -/
def members : List (SlotId × Wait) :=
  ([1, 2, 3, 4, 5] : List SlotId).map (fun k => (k, ⟨k.val, .slot (k + 1), 0⟩))

theorem test_meets_RouteSettingMovesOn :
    (∃ o, (busy .moving (.active .running none)).liveOrder? 5 = some o ∧ o.route[o.routeIndex]? = some 1 ∧
      o.route[o.routeIndex]? ≠ some 240) ∧
      ((with240 (rec240 .free)).section? 240 = some (rec240 .free) ∧ (5 : SlotId) ∈ (rec240 .free).waiters ∧
        (0 : SlotId) ∉ (rec240 .free).waiters ∧ idle.section? 239 = none) ∧
      (members.length ≤ 5 ∧ (0 : SlotId) ∉ members.map (·.1) ∧ members.head?.map (·.1) = some 1 ∧
        ∀ (i : Nat) (m : SlotId) (w : Wait), members[i]? = some (m, w) → (ring.slot m).progress.wait = some w ∧
          w.on = .slot (((members.map (·.1))[i + 1]?).getD 0)) ∧
      (∀ l : List (SlotId × Wait), ¬ (l.head?.map (·.1) = some 1 ∧
        ∀ (i : Nat) (m : SlotId) (w : Wait), l[i]? = some (m, w) → (idle.slot m).progress.wait = some w)) := by
  refine ⟨⟨order .fetch (.active .running none), by decide +kernel⟩, by decide +kernel,
    ⟨by decide, by decide, by decide, fun i m w h => ?_⟩, fun l h => ?_⟩
  · match i, h with
    | 0, h | 1, h | 2, h | 3, h | 4, h => cases h; decide +kernel
    | _ + 5, h => cases h
  · match l, h with
    | [], h => cases h.1
    | (m, w) :: _, h =>
      have hm : m = 1 := by simpa using h.1
      subst hm
      exact absurd (h.2 0 1 w rfl) (by simp [show (idle.slot 1).progress.wait = none from rfl])

theorem test_meets_TurnoutReportsDriveTheTurnout (x : TurnoutState) :
    (∃ e u, (asking (with48 x) 20).exchangeWith 20 7 .turnout e u ∧ u.num = 48) ∧
      (asking (with48 x) 20).turnout? 48 = some ⟨48, 240, x, .report .normal, 0⟩ ∧
      (asking (with48 x) 20).locked ⟨48, 240, x, .report .normal, 0⟩ = false ∧
      (asking (with240 (rec240 (.occupied (held 0)))) 20).locked ⟨48, 240, x, .report .normal, 0⟩ = true ∧
      legReported .reverse = some .reverse ∧ legReported .moving = none ∧
      (let p := asking running 20
      (∃ e u, p.exchangeWith 20 7 .turnout e u ∧ u.num = 48) ∧
        p.turnout? 48 = some ⟨48, 240, .at .normal, .report .normal, 0⟩ ∧
        p.locked ⟨48, 240, .at .normal, .report .normal, 0⟩ = true ∧ p.owner? 240 = some (.slot 5) ∧
        p.authorityIncludes 5 240 = true ∧ (p.slot 5).authority.state ≠ .none ∧ (p.slot 5).ident.isSome ∧
        (p.slot 5).peer.isSome ∧ (p.slot 5).status ≠ .lost) ∧
      (with240 (rec240 (.occupied (held 0)))).owner? 240 = some .possession ∧
      (∃ o, running.liveOrder? 5 = some o ∧ o.routeIndex ≤ indexIn 240 o.route ∧ 1 ≤ indexIn 240 o.route ∧
        indexIn 240 o.route ≤ (running.slot 5).progress.reach) ∧ idle.liveOrder? 5 = none :=
  ⟨⟨_, _, ⟨rfl, rfl, rfl, rfl, rfl⟩, rfl⟩, rfl, rfl, rfl, rfl, rfl,
    ⟨⟨_, _, ⟨rfl, rfl, rfl, rfl, rfl⟩, rfl⟩, rfl, by decide +kernel, by decide +kernel, by decide +kernel,
      by decide +kernel, rfl, rfl, by decide +kernel⟩,
    rfl, ⟨_, rfl, by decide +kernel⟩, rfl⟩

theorem test_meets_ClampReportsDriveThePad (a : Awaiting) :
    (∃ e u, (asking idle 21).exchangeWith 21 7 .pad e u ∧ u.num = 160) ∧
      (∀ k o g c, (asking idle 21).activeOrder? k = some (o, g, c) → o.pad = 160 → g.isDocking = false) ∧
      (let p := awaiting (asking (busy .docking (.active .dockUnclamp none)) 21) a
      (∃ e u, p.exchangeWith 21 7 .pad e u ∧ u.num = 160) ∧ p.dockingAt? 160 = some 5 ∧
        (p.slot 5).docking.awaiting = a ∧ (p.slot 5).docking.transmitted = true ∧ (p.liveOrder? 5).isSome) ∧
      idle.liveOrder? 5 = none :=
  ⟨⟨_, _, ⟨rfl, rfl, rfl, rfl, rfl⟩, rfl⟩, fun k o g c h => (nomatch (h : none = some _)),
    ⟨⟨_, _, ⟨rfl, rfl, rfl, rfl, rfl⟩, rfl⟩, by cases a <;> decide +kernel, rfl, rfl, rfl⟩, rfl⟩

theorem test_meets_FieldExchangesRun :
    (let p : P60 := { idle with commands := [(247, .poll)] }
    p.exchange = none ∧ p.commands = [(247, .poll)]) ∧
      (let u (swept : Bool) (t : Option Word) : FieldUnit := ⟨1, .detector, 1, 0, none, some 99500, t, swept⟩
      let p : P60 := { idle with sweep := .running, units := [u true none, u false none] }
      (p.sweep = .running ∧ p.units = [u true none] ++ u false none :: [] ∧ (u false none).swept = false ∧
        ∀ v ∈ [u true none], v.swept = true) ∧
      (∀ v ∈ [u true none], ∀ t, v.dueSince = some t → idle.elapsed t < idle.elapsed 99000) ∧
        (u true (some 99000)).dueSince = some 99000) ∧
      (asking idle 247).exchange.isSome ∧
      (idle.commands = [] ∧ ∀ v ∈ idle.units, v.dueSince = none ∧ (idle.sweep = .running → v.swept = true)) ∧
      (∃ u, idle.unit? 247 = some u ∧ u.lastPoll = some 99500 ∧ u.dueSince = none ∧ u.swept = true) ∧
      (asking idle 1).strangersDistinct ∧ (∃ u, (asking idle 1).unit? 1 = some u ∧ u.failures < 2) ∧
      (∀ n, let p : P60 := { asking idle 1 with units := [⟨1, .detector, 1, n, none, none, none, true⟩] }
      p.strangersDistinct ∧ ∃ u, p.unit? 1 = some u ∧ u.failures = n) ∧
      (let u : FieldUnit := ⟨1, .detector, 1, 0, none, some 99990, none, false⟩
      let p : P60 := { idle with units := [u], exchange := some ⟨1, .poll, 7, 90, true⟩ }
      p.unit? 1 = some u ∧ u.lastPoll = some 99990 ∧ u.dueSince = none ∧ u.swept = false ∧
        ∃ e, p.exchange = some e ∧ e.sweep = true ∧ e.address = u.address) := by
  refine ⟨by decide +kernel, ⟨⟨rfl, rfl, rfl, by decide⟩, fun v h t ht => ?_, rfl⟩, rfl, by decide +kernel,
    ⟨_, rfl, rfl, rfl, rfl⟩, List.nodup_nil, ⟨_, rfl, by decide⟩, fun n => ⟨List.nodup_nil, _, rfl, rfl⟩,
    rfl, rfl, rfl, rfl, _, rfl, rfl, rfl⟩
  cases List.mem_singleton.1 h
  cases ht

/-- A state whose exchange is with a unit that has failed twice. -/
def failing (p : P60) (kind : UnitKind) (n : Nat) : P60 :=
  { asking p 1 with units := [⟨1, kind, n, 2, none, none, none, true⟩] }

theorem test_meets_FieldExchangesRun_silences (d : Bool) (o : Occupancy) (x : TurnoutState) :
    (let p := failing (with240 { rec240 o with discrepancy := d }) .detector 240
    p.strangersDistinct ∧ p.unit? 1 = some ⟨1, .detector, 240, 2, none, none, none, true⟩ ∧
      p.section? 240 = some { rec240 o with discrepancy := d } ∧ p.sectionsDistinct) ∧
      (failing idle .detector 2).section? 2 = none ∧ (failing idle .turnout 1).turnout? 1 = none ∧
      (let p := failing (with48 x) .turnout 48
      p.unit? 1 = some ⟨1, .turnout, 48, 2, none, none, none, true⟩ ∧
        p.turnout? 48 = some ⟨48, 240, x, .report .normal, 0⟩ ∧
        p.locked ⟨48, 240, x, .report .normal, 0⟩ = false ∧
        { p with sections := [rec240 (.occupied (held 0))] }.locked ⟨48, 240, x, .report .normal, 0⟩ = true) ∧
      (failing idle .pad 160).unit? 1 = some ⟨1, .pad, 160, 2, none, none, none, true⟩ :=
  ⟨⟨List.nodup_nil, rfl, rfl, by simp [P60.sectionsDistinct, failing, asking, with240, rec240]⟩, rfl, rfl,
    ⟨rfl, rfl, rfl, rfl⟩, rfl⟩

theorem test_meets_QueryFieldReturnsTheLink :
    idle.turnOf ⟨1, 0x06, [0]⟩ ∧ idle.turnOf ⟨1, 0x06, [247]⟩ ∧ idle.turnOf ⟨1, 0x06, [248]⟩ ∧
      idle.transferring = false := ⟨turn_of _, turn_of _, turn_of _, rfl⟩

theorem test_meets_ThrowsAreDecidedAndTimed (x : TurnoutState) :
    (with48 x).turnOf ⟨1, 0x20, [48, 2]⟩ ∧ (with48 x).hasTurnout 48 ⟨48, 240, x, .report .normal, 0⟩ ∧
      legOf 2 = some .reverse ∧ (with48 x).locked ⟨48, 240, x, .report .normal, 0⟩ = false ∧
      ((with48 x).turnouts.map (·.num)).Nodup ∧
      ((with48 x).turnouts.filterMap (fun r => r.state.slot?)).Nodup ∧
      (with48 x).turnout? 48 = some ⟨48, 240, x, .report .normal, 0⟩ ∧ (with48 x).turnOf ⟨1, 0x21, [48]⟩ :=
  ⟨turn_of _, ⟨rfl, by decide, by decide, rfl⟩, rfl, rfl, by simp [with48], by
    cases x <;> simp [with48, TurnoutState.slot?], rfl, turn_of _⟩

theorem test_meets_ThrowsAreDecidedAndTimed_arbiter (x : TurnoutState) :
    (let p : P60 := { with48 x with throwQueue := [(48, .reverse)] }
    p.throwQueue = (48, .reverse) :: [] ∧ p.turnout? 48 = some ⟨48, 240, x, .report .normal, 0⟩ ∧
      p.locked ⟨48, 240, x, .report .normal, 0⟩ = false ∧
      { p with sections := [rec240 (.occupied (held 0))] }.locked ⟨48, 240, x, .report .normal, 0⟩ = true) ∧
      (with48 (.at .reverse)).turnout? 48 = some ⟨48, 240, .at .reverse, .report .normal, 0⟩ ∧
      idle.turnout? 47 = none ∧
      (∀ r ∈ idle.turnouts, r.state.slot? ≠ some .one ∧ r.state.slot? ≠ some .two) ∧
      (let p := with48 (.moving .normal .one 6000)
      (∃ r ∈ p.turnouts, r.state.slot? = some .one) ∧ ∀ r ∈ p.turnouts, r.state.slot? ≠ some .two) ∧
      (let p : P60 := { idle with turnouts := [⟨48, 240, .moving .normal .one 6000, .silent, 0⟩,
        ⟨47, 239, .moving .normal .two 6000, .silent, 0⟩] }
      (∃ r ∈ p.turnouts, r.state.slot? = some .one) ∧ ∃ r ∈ p.turnouts, r.state.slot? = some .two) ∧
      ((∀ u ∈ idle.units, ¬ (u.kind = .pad ∧ u.num = 1)) ∧
        (∃ a u b, idle.units = a ++ u :: b ∧ (∀ v ∈ a, ¬ (v.kind = .turnout ∧ v.num = 48)) ∧ u.kind = .turnout ∧
          u.num = 48 ∧ (∀ e ∈ idle.commands, e.1 ≠ u.address) ∧
          ∃ e ∈ ({ idle with commands := [(20, .poll)] } : P60).commands, e.1 = u.address)) := by
  refine ⟨⟨rfl, rfl, rfl, rfl⟩, rfl, rfl, by decide +kernel, by decide +kernel, by decide +kernel, by decide +kernel,
    [_], _, _, rfl, ?_⟩
  decide +kernel

theorem test_meets_QueriesOfTheTrackAndHolds (o : Occupancy) (x : TurnoutState) :
    ((with240 (rec240 o)).turnOf ⟨1, 0x1D, [240]⟩ ∧ (with240 (rec240 o)).transferring = false ∧
      (with240 (rec240 o)).hasSection 240 (rec240 o)) ∧
      ((with48 x).turnOf ⟨1, 0x22, [48]⟩ ∧ (with48 x).transferring = false ∧
        (with48 x).hasTurnout 48 ⟨48, 240, x, .report .normal, 0⟩) ∧
      idle.turnOf ⟨1, 0x3A, [160]⟩ ∧ idle.transferring = false ∧ idle.hasPad 160 ⟨160, 1, 30000, 21⟩ ∧
      idle.pad? 160 = some ⟨160, .locked, none⟩ ∧ idle.turnOf ⟨1, 0x3B, [64]⟩ ∧ idle.turnOf ⟨1, 0x3B, [65]⟩ ∧
      idle.turnOf ⟨1, 0x4B, []⟩ :=
  ⟨⟨turn_of _, rfl, (meets_section o ⟨0, 0, []⟩).2⟩, ⟨turn_of _, rfl, rfl, by decide, by decide, rfl⟩,
    turn_of _, rfl, ⟨rfl, by decide, by decide, rfl⟩, rfl, turn_of _, turn_of _, turn_of _⟩

/-- A FETCH of telescope 64 by slot 6, as sent. -/
def fetch (id : Half) : OrderDesc := ⟨id, 1, 6, 64, 160, [240, 1]⟩

theorem test_meets_InsertOrdersPutsTheBatchIn :
    (Instr.insertOrders 1 .head [fetch 65535]).wf = true ∧
      idle.turnOf ⟨1, 0x28, positionBytes .head ++ bList ([fetch 65535].map orderBytes)⟩ ∧
      (bound .idle).transferring = false ∧ (bound .idle).itemsPass line [] (fetch 65535) ∧ idle.itemsPass line [fetch 65535] (fetch 1) ∧
      { idle with scanning := true }.turnOf ⟨1, 0x28, []⟩ ∧ P60.initial.plan?.isNone ∧
      ((busy .waiting (.active .waiting none)).order? 1).isSome ∧ idle.order? 65535 = none ∧
      64 < (List.replicate 64 (order .fetch .queued)).length + 1 ∧
      (List.replicate 63 (order .fetch .queued)).length + 1 ≤ 64 ∧ slotOf 7 = none ∧
      routeRefusal line [1] 160 = none ∧ routeRefusal line [240] 160 = some .routeInvalid ∧
      routeRefusal line [] 160 = some .outOfRange ∧ routeRefusal line [1] 161 = some .outOfRange ∧
      routeRefusal line [2, 1] 160 = some .notInPlan ∧ routeRefusal line [1] 1 = some .notInPlan ∧
      routeRefusal line [1, 240, 1] 160 = some .routeInvalid ∧ line.derive [240, 1] ≠ none ∧
      ({ idle with orders := [{ order .deliver .queued with promise := true }] }.promisedTo? 160).isSome ∧
      (idle.promisedTo? 160) = none ∧ ((idle.setLocation 64 (.pad 160)).holder? 160).isSome ∧ line.meetsOnce ∧
      idle.plan = .active line ∧ P60.initial.plan? = none := by
  unfold P60.itemsPass Plan.meetsOnce
  refine ⟨?_, turn_of _, rfl, ?_, ?_, turn_of _, ?_⟩
  · decide +kernel
  · refine ⟨by decide +kernel, nofun, by decide +kernel, by decide, .fetch, 5, ?_⟩
    refine ⟨rfl, rfl, by decide, by decide +kernel, nofun⟩
  · refine ⟨by decide +kernel, by decide +kernel, by decide +kernel, by decide, .fetch, 5, ?_⟩
    refine ⟨rfl, rfl, by decide, by decide +kernel, nofun⟩
  · decide +kernel

theorem test_meets_MoveRemoveAndCollectEditTheList (st : OrderState) :
    (busy .idle st).turnOf ⟨1, 0x29, b2 1 ++ positionBytes .tail⟩ ∧ (busy .idle st).turnOf ⟨1, 0x2A, b2 1⟩ ∧
      (busy .idle st).turnOf ⟨1, 0x2B, []⟩ ∧ (busy .idle st).order? 1 = some (order .fetch st) ∧
      (busy .idle st).scanning = false ∧ idle.order? 1 = none ∧ (Position.other 4).wf = true ∧
      placeAt .tail [order .fetch .queued] [{ order .run .queued with id := 2 }] ≠
        [order .fetch .queued, { order .run .queued with id := 2 }] ∧
      (busy .idle st).orders = [] ++ order .fetch st :: [] :=
  ⟨turn_of _, turn_of _, turn_of _, rfl, rfl, rfl, rfl, by decide +kernel, rfl⟩

theorem test_meets_CancelOrderFinishesInPlace (st : OrderState) :
    (busy .idle st).turnOf ⟨1, 0x2C, b2 1⟩ ∧ (busy .idle st).order? 1 = some (order .fetch st) ∧
      (busy .idle st).scanning = false ∧ idle.order? 1 = none :=
  ⟨turn_of _, rfl, rfl, rfl⟩

theorem test_meets_StopAndResumeOrders (st : OrderState) :
    (busy .held st).turnOf ⟨1, 0x2D, b2 1⟩ ∧ (busy .held st).turnOf ⟨1, 0x2E, b2 1⟩ ∧
      (busy .held st).order? 1 = some (order .fetch st) ∧
      (st.live = true → (busy .held st).liveOrder? 5 = some (order .fetch st)) ∧ (busy .held st).estop = false ∧
      (busy .held st).silence.state ≠ .expired ∧ (SlotState.held).fixed = false ∧
      ((busy .held st).slot 5).fault = none ∧
      (let o := order .fetch (.suspended .setting .stopped)
      let p := busy .idle (.suspended .setting .stopped)
      let q := { p with sections := [⟨1, .free, false, false, .clear, []⟩,
        ⟨240, .occupied ⟨.slot 5, none, none, 0, false, false, none⟩, false, false, .occupied, []⟩] }
      p.owner? 240 = none ∧ indexIn (q.slot 5).front.sec.toNat o.route = 1 ∧ o.routeIndex = 1 ∧
        (∃ t, (q.stepsOf o)[0]? = some t ∧ t.sec = 240 ∧ t.leg = some .normal) ∧
        q.owner? 240 = some (.slot 5) ∧ q.detectedIn 240 .normal = true ∧ (q.slot 5).held = false ∧
        ((q.withSlot 5 (fun x => { x with held := true })).slot 5).held = true) :=
  ⟨turn_of _, turn_of _, rfl, fun h => by
      cases st <;> first
        | rfl
        | exact absurd h (Bool.false_ne_true), rfl, nofun, rfl, rfl,
    by decide +kernel, by decide +kernel, by decide +kernel, ⟨_, rfl, by decide +kernel, by decide +kernel⟩,
    by decide +kernel, by decide +kernel, by decide +kernel, by decide +kernel⟩

theorem test_meets_QueriesOfOrdersAndWaits (st : OrderState) :
    (busy .idle st).turnOf ⟨1, 0x2F, b2 1⟩ ∧ (busy .idle st).order? 1 = some (order .fetch st) ∧
      idle.order? 1 = none ∧ (busy .idle st).transferring = false ∧ idle.turnOf ⟨1, 0x30, [64]⟩ ∧
      idle.turnOf ⟨1, 0x30, [65]⟩ ∧ idle.turnOf ⟨1, 0x30, [0]⟩ ∧ idle.turnOf ⟨1, 0x34, []⟩ ∧
      idle.turnOf ⟨1, 0x35, []⟩ ∧ idle.transferring = false :=
  ⟨turn_of _, rfl, rfl, rfl, turn_of _, turn_of _, turn_of _, turn_of _, turn_of _, rfl⟩

theorem test_meets_QueriesOfTheSlots :
    idle.turnOf ⟨1, 0x36, [6]⟩ ∧ idle.turnOf ⟨1, 0x37, [1]⟩ ∧ idle.turnOf ⟨1, 0x36, [0]⟩ ∧
      idle.turnOf ⟨1, 0x37, [7]⟩ ∧ idle.turnOf ⟨1, 0x42, []⟩ ∧ idle.turnOf ⟨1, 0x43, [6]⟩ ∧
      idle.turnOf ⟨1, 0x43, [7]⟩ ∧ idle.turnOf ⟨1, 0x44, []⟩ ∧ idle.transferring = false ∧
      (6 : Byte).toNat = (5 : SlotId).val + 1 ∧
      (let p : P60 := { idle with writes := [.place 64 .unplaced], requests := [⟨1, 0x36, [6]⟩] }
      requestOf (.queryAuthority 1 6) = some ⟨1, 0x36, [6]⟩ ∧ p.requests.head? = some ⟨1, 0x36, [6]⟩ ∧
        p.transferring = true) :=
  ⟨turn_of _, turn_of _, turn_of _, turn_of _, turn_of _, turn_of _, turn_of _, turn_of _, rfl, rfl, rfl, rfl, rfl⟩

/-- A report from section 240 at a speed. -/
def reported (v : Half) : PositionReport := ⟨⟨240, 9000⟩, ⟨240, 1000⟩, .forward, v, false⟩

theorem test_meets_SpeedIsSupervisedAgainstTheCurve :
    let o := order .fetch (.active .running none)
    let e : Eoa := ⟨240, 60000, .sectionEnd⟩
    running.activeOrder? 5 = some (o, .running, none) ∧ running.liveOrder? 5 = some o ∧
      (running.slot 5).authority.state = .given e ∧
      ((running.planSection? 240).isSome ∧ (running.slot 5).progress.order ≠ 0 ∧ indexIn 240 o.route = 1 ∧
        indexIn 239 o.route = 0 ∧ (running.stepsOf o)[0]?.isSome ∧ (running.stepsOf o)[1]?.isSome) ∧
      (running.figuresOf 5 o (reported 100) e).basis = .curve ∧
      (running.figuresOf 5 o { reported 100 with direction := .backward } e).basis = .reversed ∧
      (running.figuresOf 5 o { reported 100 with front := ⟨239, 0⟩ } e).basis = .offRoute ∧
      (let ev := running.figuresOf 5 o (reported 100) e
      ev.speed ≤ ev.p + ev.t) ∧
      (let ev := running.figuresOf 5 o (reported 1500) e
      ev.p + ev.t < ev.speed) ∧
      ((running.slot 5).ident = some carrier ∧ (running.slot 5).peer = some polled ∧
        (running.slot 5).status ≠ .lost ∧ running.ceilingFor 5 e ≠ (running.slot 5).authority.sentCeiling) ∧
      (idle.activeOrder? 5 = none ∧ ((bound .idle).slot 5).authority.state = .none) ∧
      (let p := running.withSlot 5 (fun x => { x with authority := { x.authority with state := .braked e } })
      p.activeOrder? 5 = some (o, .running, none) ∧ (p.slot 5).authority.state = .braked e) ∧
      (running.withSlot 5 (fun x => { x with front := ⟨1, 0⟩ })).liveOrder? 5 = some o := by decide +kernel

/-- Slot 6 owns section 240, its release asked for or not. -/
def owned (pending : Bool) : SectionRec :=
  { rec240 (.occupied ⟨.slot 5, some .a, some .normal, 0, true, pending, none⟩) with waiters := [] }

theorem test_meets_ReservationAttemptsGrantOrWait :
    (idle.section? 240 = some ⟨240, .free, false, false, .clear, []⟩ ∧ idle.powered 240 = true ∧
      idle.detectedIn 240 .normal = true ∧ (rec240 .free).waiters.head? = some 5) ∧
      (∃ x h, (with240 (rec240 (.occupied (held 0)))).section? 240 = some x ∧ x.occ.holding? = some h ∧
        h.owner ≠ .slot 5) ∧
      (∀ pending, ∃ x h, (with240 (owned pending)).section? 240 = some x ∧ x.occ.holding? = some h ∧
        h.owner = .slot 5 ∧ h.releasePending = pending) ∧
      ((rec240 .disturbed).occ.holding? = none ∧ (rec240 .disturbed).occ ≠ .free) ∧
      ((rec240 .free).waiters.head?.isSome ∧ (rec240 .free).waiters.head? ≠ some 0) ∧
      (∀ x, (with48 x).turnoutIn? 240 = some ⟨48, 240, x, .report .normal, 0⟩ ∧
        (with48 x).section? 240 = some ⟨240, .free, false, false, .clear, []⟩ ∧
        (with48 x).queueOf? 5 ≠ some 240) ∧
      ((∀ x ∈ idle.sections, (5 : SlotId) ∉ x.waiters) ∧
        (with240 (rec240 .free)).sections = [⟨1, .free, false, false, .clear, []⟩] ++ rec240 .free :: [] ∧
        (5 : SlotId) ∈ (rec240 .free).waiters) ∧
      (let w : Wait := ⟨240, .none, 99000⟩
      let p := (bound .waiting).withSlot 5 (fun x => { x with progress := { x.progress with wait := some w } })
      (p.slot 5).progress.wait = some w) := by
  refine ⟨by decide +kernel, ⟨_, _, rfl, rfl, by decide⟩, fun pending => ⟨_, _, rfl, rfl, rfl, rfl⟩, by decide,
    by decide, fun x => ⟨rfl, rfl, nofun⟩, ⟨by decide +kernel, rfl, by decide⟩, by decide +kernel⟩

/-- Section 240 free with slot 6 waiting for it, its order in a state. -/
def waited (st : OrderState) (x : TurnoutState) : P60 :=
  { busy .waiting st with
    slots := idle.slots.set 5 { slot6 .waiting with progress := ⟨1, 0, some ⟨240, .none, 99000⟩, none, 0⟩ }
    sections := [⟨1, .free, false, false, .clear, []⟩, rec240 .free]
    turnouts := [⟨48, 240, x, .report .normal, 0⟩] }

/-- Slot 6 gone on into section 1, section 240 behind it with a reading. -/
def passed (v : Reading) (proving : Option Nat) : P60 :=
  { running with
    slots := running.slots.set 5 { running.slot 5 with
      front := ⟨1, 20000⟩, rear := ⟨1, 10000⟩, overlap := some (1, 1)
      progress := ⟨1, 2, none, none, 2⟩ }
    sections := [⟨1, .occupied ⟨.slot 5, some .a, none, 0, true, false, none⟩, false, false, .occupied, []⟩,
      ⟨240, .occupied ⟨.slot 5, some .a, some .normal, 0, true, false, proving⟩, false, false, v, []⟩] }

theorem test_meets_ReservationPassesExtendTheRun :
    let o := order .fetch (.active .running none)
    let near := running.withSlot 5 (fun x => { x with front := ⟨240, 59000⟩ })
    let setting := waited (.active .setting none) (.at .normal)
    let alone := setting.withSlot 5 (fun x => { x with front := ⟨239, 0⟩ })
    let reach : P60 → Nat := fun p => (p.slot 5).progress.reach
    (running.mayPass 5 = true ∧ idle.mayPass 5 = false) ∧
      (indexIn (running.slot 5).front.sec.toNat o.route = 1 ∧ o.routeIndex = 1 ∧ reach running = 1 ∧
        reach setting = 0 ∧ indexIn (alone.slot 5).front.sec.toNat o.route = 0) ∧
      (∃ t, (running.stepsOf o)[1]? = some t ∧ running.covered 5 o = true ∧ near.covered 5 o = false ∧
        (near.attempt 5 t).2 = true ∧ (({ near with sections := [] } : P60).attempt 5 t).2 = false) ∧
      (running.liveOrder? 5 = some o ∧ reach running ≠ o.route.length ∧ (running.planPad? o.pad).isSome ∧
        reach (passed .clear none) = o.route.length ∧
        (running.slot 5).progress.handed = some (some ⟨240, 60000, .sectionEnd⟩) ∧
        (setting.slot 5).progress.handed = none) ∧
      (setting.activeOrder? 5 = some (order .fetch (.active .setting none), .setting, none) ∧
        reach ((setting.extendRun 5 (order .fetch (.active .setting none))).formEoa 5) ≠ 0 ∧
        reach ((alone.extendRun 5 (order .fetch (.active .setting none))).formEoa 5) = 0) ∧
      (let p := waited (.active .waiting none) (.at .normal)
      let q := waited (.active .waiting none) .undetected
      let w := order .fetch (.active .waiting none)
      p.activeOrder? 5 = some (w, .waiting, none) ∧ reach p < reach ((p.extendRun 5 w).formEoa 5) ∧
        reach ((q.extendRun 5 w).formEoa 5) ≤ reach q) ∧
      ((running.slot 5).timer.state = .stopped ∧
        ((running.withSlot 5 (fun x => { x with timer := { x.timer with state := .running } })).slot 5).timer.state ≠
          .stopped) := by
  refine ⟨by decide +kernel, by decide +kernel, ⟨_, rfl, ?_⟩, ?_, ?_, ?_, ?_⟩ <;> decide +kernel

/-- R104's last column: a pass that takes a WAITING order with a BRAKED record to RUNNING (R92) records the end of
authority and sends nothing. -/
theorem test_pass_leaves_a_braked_record_braked :
    (let p := ((waited (.active .waiting none) (.at .normal)).withSlot 5 (fun x =>
      { x with authority := { x.authority with state := .braked ⟨1, 0, .sectionEnd⟩ } })).pass 5
    p.activeStage? 5 = some .running ∧
      (p.slot 5).authority.state = .braked ⟨240, 60000, .sectionEnd⟩ ∧
      (p.slot 5).peer.bind (·.motion) = none) := by decide +kernel

theorem test_meets_SectionsAreReleasedHandedOverAndAdopted :
    (∃ x, (with240 (owned false)).section? 240 = some x ∧ x = owned false ∧
      (with240 (owned false)).elapsed 98000 = 2000 ∧ (with240 (owned false)).elapsed 98001 = 1999) ∧
      (∀ v proving, ∃ x h o, (passed v proving).section? 240 = some x ∧ x.occ.holding? = some h ∧
        h.owner = .slot 5 ∧ h.autoRelease = true ∧ h.proving = proving ∧ h.releasePending = false ∧
        x.reading = v ∧ (passed v proving).liveOrder? 5 = some o ∧ indexIn 240 o.route = 1 ∧
        1 < ((passed v proving).slot 5).progress.rearIndex ∧ (passed v proving).overlaps 5 240 = false ∧
        ∃ e u, (asking (passed v proving) 247).exchangeWith 247 7 .detector e u ∧ u.num = 240) ∧
      (∀ g c x, ∃ r st, (waited (.active g c) x).section? 240 = some r ∧ r.waiters = 5 :: [] ∧
        (waited (.active g c) x).liveOrder? 5 = some (order .fetch (.active g c)) ∧
        ((waited (.active g c) x).stepsOf (order .fetch (.active g c))).find? (fun t => t.sec == 240) = some st ∧
        st.leg = some .normal ∧ (waited (.active g c) x).powered 240 = true ∧
        (waited (.active g c) x).turnoutIn? 240 = some ⟨48, 240, x, .report .normal, 0⟩ ∧
        ((waited (.active g c) x).slot 5).progress.order ≠ 0) ∧
      (waited (.active .waiting none) (.at .normal)).detectedIn 240 .normal = true ∧
      (waited (.suspended .setting .stopped) (.at .normal)).liveOrder? 5 =
        some (order .fetch (.suspended .setting .stopped)) ∧
      ({ rec240 .free with waiters := [5, 4] }.waiters = 5 :: 4 :: [] ∧ (rec240 .free).waiters = [5]) ∧
      ((bound .idle).section? 240 = some ⟨240, .free, false, false, .clear, []⟩ ∧
        (with240 (rec240 (.releasing 3000))).section? 240 = some (rec240 (.releasing 3000))) := by
  refine ⟨⟨_, rfl, rfl, by decide +kernel, by decide +kernel⟩, fun v proving => ?_, fun g c x => ?_, ?_⟩
  · exact ⟨_, _, order .fetch (.active .running none), rfl, rfl, rfl, rfl, rfl, rfl, rfl, rfl, rfl,
      (by decide : 1 < 2), rfl, _, _, ⟨rfl, rfl, rfl, rfl, rfl⟩, rfl⟩
  · exact ⟨_, _, rfl, rfl, rfl, rfl, rfl, rfl, rfl, (by decide : (1 : Nat) ≠ 0)⟩
  · decide +kernel

theorem test_meets_MovementIsJudgedAtStandstill :
    let o := order .fetch (.active .running none)
    let still : PositionReport := { reported 0 with standstill := true }
    let stopping : P60 := { running with orders := [order .fetch (.active .stopping none)] }
    (running.activeOrder? 5 = some (o, .running, none) ∧ running.basis 5 still ≠ .offRoute ∧
      running.basis 5 { still with front := ⟨239, 0⟩ } = .offRoute ∧
      ((waited (.active .running none) .undetected).slot 5).authority.state = .none ∧
      (running.slot 5).authority.state = .given ⟨240, 60000, .sectionEnd⟩) ∧
      (∀ kind off, let e : Eoa := ⟨1, off, .padStop⟩
      let p : P60 := { running.withSlot 5 (fun x => { x with authority := { x.authority with state := .given e } }) with
        orders := [order kind (.active .running none)] }
      p.activeOrder? 5 = some (order kind (.active .running none), .running, none) ∧
        (p.slot 5).authority.state = .given e) ∧
      (stopping.activeOrder? 5 = some (order .fetch (.active .stopping none), .stopping, none) ∧
        stopping.basis 5 still = .curve ∧ (stopping.slot 5).held = false) ∧
      (let p := running.withSlot 5 (fun x =>
        { x with authority := { x.authority with state := .given ⟨1, 30000, .padStop⟩ } })
      p.liveOrder? 5 = some o ∧ (p.planSection? (p.slot 5).rear.sec.toNat).isSome ∧
        p.truncationIndex? 5 o ⟨1, 30000, .padStop⟩ = some 1) ∧
      ((running.stepsOf o)[0]?.isSome ∧ (running.stepsOf o)[1]?.isSome ∧ o.route[o.routeIndex]? = some 1) ∧
      (((bound .lost).slot 5).status = .lost ∧ (running.slot 5).status ≠ .lost ∧
        (running.slot 5).motion.standing = true ∧
        ((running.withSlot 5 (fun x => { x with motion := Motion.initial })).slot 5).motion.standing = false) := by
  refine ⟨by decide +kernel, fun kind off => ⟨rfl, rfl⟩, by decide +kernel, by decide +kernel, by decide +kernel,
    by decide +kernel⟩

theorem test_meets_SuspensionsReleaseAhead :
    (running.liveOrder? 5 = some (order .fetch (.active .running none)) ∧ (running.slot 5).motion.standing = true ∧
      ((running.withSlot 5 (fun x => { x with motion := Motion.initial })).slot 5).motion.standing = false ∧
      running.activeOrder? 5 = some (order .fetch (.active .running none), .running, none)) ∧
      (busy .stopping (.active .stopping (some .estop))).activeOrder? 5 =
        some (order .fetch (.active .stopping (some .estop)), .stopping, some .estop) ∧
      (idle.liveOrder? 5 = none ∧ idle.activeOrder? 5 = none ∧ ∀ x ∈ idle.sections, (5 : SlotId) ∉ x.waiters) ∧
      (∃ a b x, (with240 (rec240 .free)).sections = a ++ x :: b ∧ (∀ y ∈ a, (5 : SlotId) ∉ y.waiters) ∧
        (5 : SlotId) ∈ x.waiters) ∧
      ((idle.slot 5).ident = none ∧ (running.slot 5).ident = some carrier ∧ (running.slot 5).peer = some polled ∧
        (running.slot 5).status ≠ .lost ∧ ((bound .lost).slot 5).status = .lost ∧
        ((bound .lost).slot 5).peer = some polled) := by
  refine ⟨by decide +kernel, rfl, by decide +kernel,
    ⟨[⟨1, .free, false, false, .clear, []⟩], [], rec240 .free, rfl, ?_, ?_⟩, by decide +kernel⟩ <;> decide +kernel

theorem test_meets_OverdueAndStageTimersRunOut :
    ((idle.withSlot 5 (fun x => { x with timer := ⟨.running, 1, 100, 90, .none, none⟩ })).slot 5).timer.state =
        .running ∧
      (∀ g c, let p := (busy .moving (.active g c)).withSlot 5 (fun x =>
        { x with timer := ⟨.running, 1, 100, 90, .none, none⟩ })
      (p.slot 5).timer.state = .running ∧ p.activeOrder? 5 = some (order .fetch (.active g c), g, c)) ∧
      (let p := awaiting (busy .docking (.active .dockLift none)) .lifted
      (p.slot 5).docking.timer = .running 100 ∧
        p.activeOrder? 5 = some (order .fetch (.active .dockLift none), .dockLift, none)) :=
  ⟨by decide +kernel, fun g c => ⟨rfl, rfl⟩, by decide +kernel⟩

theorem test_meets_LockPadAndPlaceTelescope :
    idle.turnOf ⟨1, 0x38, [160]⟩ ∧ idle.hasPad 160 ⟨160, 1, 30000, 21⟩ ∧
      (∃ a u b, idle.units = a ++ u :: b ∧ (∀ v ∈ a, ¬ (v.kind = .pad ∧ v.num = 160)) ∧ u.kind = .pad ∧ u.num = 160) ∧
      (∃ o ∈ (busy .docking (.active .dockLift none)).orders, o.pad = 160 ∧
        ∃ g, o.state.stage? = some g ∧ g.isDocking = true) ∧
      idle.turnOf ⟨1, 0x39, [64] ++ targetBytes (.pad 160)⟩ ∧ idle.transferring = false ∧
      (PlaceTarget.pad 160).wf = true ∧
      (bound .idle).turnOf ⟨1, 0x39, [64] ++ targetBytes (.transporter 6)⟩ ∧ slotOf 6 = some 5 ∧
      ((bound .idle).slot 5).ident = some carrier ∧ (bound .idle).location 64 ≠ .transporter carrier ∧
      (bound .idle).liveOrder? 5 = none ∧ (bound .idle).laden 5 = false ∧
      ((bound .idle).setLocation 64 (.transporter carrier)).location 64 = .transporter carrier ∧
      (let p := (bound .idle).setLocation 1 (.transporter carrier)
      p.laden 5 = true ∧ p.location 64 ≠ .transporter carrier ∧ p.busyWith (p.location 64) = false) ∧
      idle.busyWith (idle.location 64) = false ∧ idle.holder? 160 = none ∧ idle.promisedTo? 160 = none ∧
      ((idle.setLocation 1 (.pad 160)).holder? 160).isSome ∧
      (idle.setLocation 64 (.pad 160)).location 64 = .pad 160 ∧ idle.location 64 = .unplaced ∧
      (let p : P60 := { idle with
        writes := [.place 64 (.pad 160)], requests := [⟨1, 0x39, [64] ++ targetBytes (.pad 160)⟩] }
      p.writes = .place 64 (.pad 160) :: [] ∧ p.requests = ⟨1, 0x39, [64] ++ targetBytes (.pad 160)⟩ :: []) := by
  refine ⟨turn_of _, ⟨rfl, by decide, by decide, rfl⟩, ⟨[_, _], _, _, rfl, by decide, rfl, rfl⟩,
    ⟨_, List.mem_singleton.2 rfl, rfl, .dockLift, rfl, rfl⟩, turn_of _, rfl, by decide, turn_of _, ?_⟩
  decide +kernel

theorem test_meets_StorageKeepsWhatIsSet :
    (let p : P60 := { idle with writes := [.inhibits [240] 1], requests := [⟨1, 0x1A, [1, 240]⟩] }
    p.writes = [.inhibits [240] 1] ∧ p.requests = [⟨1, 0x1A, [1, 240]⟩]) ∧
      (Instr.setAcceptance 1 (List.replicate 24 ⟨some 255, none, none⟩)).wf = true ∧
      (Instr.setAcceptance 1 (List.replicate 25 ⟨some 255, none, none⟩)).wf = true ∧
      (Instr.setAcceptance 1 [⟨none, none, none⟩]).wf = true ∧ idle.turnOf ⟨1, 0x40, [0]⟩ ∧
      idle.turnOf ⟨1, 0x41, []⟩ ∧ idle.transferring = false := by
  refine ⟨⟨rfl, rfl⟩, ?_, ?_, ?_, turn_of _, turn_of _, rfl⟩ <;> decide +kernel

theorem test_meets_TransfersMoveCustody :
    (let p : P60 := { busy .docking (.active .dockLift none) with writes := [.lifted 5 carrier 1 64] }
    p.writes = .lifted 5 carrier 1 64 :: [] ∧ (p.slot 5).status ≠ .lost) ∧
      (let p : P60 := { busy .docking (.active .dockLower none) with writes := [.lowered 5 carrier 1 64 160] }
      p.writes = .lowered 5 carrier 1 64 160 :: []) ∧
      (let p := busy .docking (.active .dockArrive none)
      p.liveOrder? 5 = some (order .fetch (.active .dockArrive none)) ∧ (p.slot 5).ident.isSome ∧
        (p.slot 5).peer.isSome ∧ (p.slot 5).status ≠ .lost ∧ p.windInput = false ∧
        { p with windInput := true }.windInput = true ∧
        p.outsideWindow 5 (order .fetch (.active .dockArrive none)) = true ∧
        (p.withSlot 5 (fun x => { x with front := ⟨1, 29950⟩ })).outsideWindow 5
          (order .fetch (.active .dockArrive none)) = false) ∧
      (idle.planPad? 160 = some ⟨160, 1, 30000, 21⟩ ∧ (idle.planSection? 1).isSome) := by decide +kernel

theorem test_meets_ReleaseSlotAndClearSlotFault (st : SlotState) (f : Option FaultCause) :
    (bound st).turnOf ⟨1, 0x45, [6]⟩ ∧ ((bound st).slot 5).status = st ∧ slotOf 6 = some 5 ∧
      ((bound st).slot 5).ident = some carrier ∧ ((bound st).slot 5).peer = some polled ∧
      (let p := (bound st).withSlot 5 (fun x => { x with fault := f })
      p.turnOf ⟨1, 0x46, [6]⟩ ∧ (p.slot 5).fault = f ∧ (p.slot 5).reportedLoad = p.laden 5) ∧
      (let p := (bound st).withSlot 5 (fun x => { x with reportedLoad := true })
      (p.slot 5).reportedLoad ≠ p.laden 5) ∧
      ((with240 (rec240 .free)).sections.Pairwise (fun x y => (5 : SlotId) ∉ x.waiters ∨ (5 : SlotId) ∉ y.waiters) ∧
        ∃ x ∈ (with240 (rec240 .free)).sections, (5 : SlotId) ∈ x.waiters) := by
  refine ⟨turn_of _, rfl, rfl, rfl, rfl, ⟨turn_of _, rfl, ?_⟩, ?_, by decide +kernel⟩
  · cases st <;> cases f with
      | none => decide +kernel
      | some f => cases f <;> decide +kernel
  · cases st <;> decide +kernel

theorem test_meets_SilenceTimerRequests (t : Silence) :
    { idle with silence := t }.turnOf ⟨1, 0x04, []⟩ ∧ { idle with silence := t }.silence = t ∧
      { idle with silence := t }.turnOf ⟨1, 0x05, b4 4294967295⟩ := ⟨turn_of _, rfl, turn_of _⟩

theorem test_meets_StopsBrakeAndAreReset :
    { idle with silence := ⟨.armed, 1000, none, 10, none⟩ }.silence.state = .armed ∧ idle.estop = false ∧
      { idle with estop := true }.estop = true ∧ { idle with estop := true }.turnOf ⟨1, 0x4A, []⟩ ∧
      { idle with estop := true }.estopInput = false ∧ idle.turnOf ⟨1, 0x4A, []⟩ ∧ idle.activeOrder? 5 = none ∧
      ∀ g c, (busy .moving (.active g c)).activeOrder? 5 = some (order .fetch (.active g c), g, c) :=
  ⟨rfl, rfl, rfl, turn_of _, rfl, turn_of _, rfl, fun _ _ => rfl⟩

theorem test_meets_OvercurrentTripsTheFeeder (x : Feeder) :
    (idle.withFeeder 3 (fun _ => x)).feeder 3 = x ∧ (idle.withFeeder 3 (fun _ => x)).estop = false ∧
      (∃ a b y, ((bound .idle).slot 5).overlap = some (a, b) ∧ (bound .idle).planSection? a = some y ∧
        y.feeder = 3) ∧ ((bound .idle).slot 4).overlap = none ∧
      (5 : SlotId) ∉ (idle.feeder 0).held ∧
      (5 : SlotId) ∈ ((idle.withFeeder 3 (fun f => { f with held := [5] })).feeder 3).held :=
  ⟨rfl, rfl, ⟨240, 240, _, rfl, rfl, rfl⟩, rfl, by decide +kernel, by decide +kernel⟩

theorem test_meets_FeedersAreRestored (x : Feeder) :
    (idle.withFeeder 3 (fun _ => x)).feeder 3 = x ∧ feederOf 4 = some 3 ∧ feederOf 5 = none ∧
      (idle.withFeeder 3 (fun _ => x)).turnOf ⟨1, 0x49, [4]⟩ ∧ idle.turnOf ⟨1, 0x49, [5]⟩ ∧
      (idle.withFeeder 3 (fun _ => x)).estop = false ∧
      (with240 (rec240 .free)).sections.filter (fun y => y.occ == .free && !y.waiters.isEmpty) = [rec240 .free] :=
  ⟨rfl, rfl, rfl, turn_of _, turn_of _, rfl, by decide +kernel⟩

theorem test_meets_WindHoldsFollowTheInputAndThePolicies :
    idle.windInput = false ∧ { idle with windInput := true }.windInput = true ∧ policyOf 1 = some .stopNow ∧
      policyOf 3 = some .proceed ∧ policyOf 0 = none ∧ policyOf 4 = none ∧ idle.turnOf ⟨1, 0x48, [1, 3]⟩ ∧
      idle.turnOf ⟨1, 0x48, [0, 4]⟩ := ⟨rfl, rfl, rfl, rfl, rfl, rfl, turn_of _, turn_of _⟩

/-- Slot 6 held or not, with an order in a stage; the wind-hold input, and feeder 4's held set. -/
def holding (b : Bool) (g : Stage) (wind : Bool) (l : List SlotId) : P60 :=
  ({ (busy .moving (.active g none)) with windInput := wind }.withSlot 5 (fun x => { x with held := b })).withFeeder 3
    (fun f => { f with held := l })

theorem test_meets_HoldsBeginAndEnd :
    (∀ b g, ((holding b g false []).slot 5).held = b ∧ (holding b g false []).windInput = false ∧
      (holding b g false []).activeOrder? 5 = some (order .fetch (.active g none), g, none) ∧
      ((holding b g false []).slot 5).status ≠ .lost) ∧
      (∀ b g, (holding b g true []).windInput = true ∧ ((holding b g true []).slot 5).ident.isSome) ∧
      (holding true .held false []).ladenPolicy = .stopNow ∧ (holding true .held false []).unladenPolicy = .atBoundary ∧
      (∀ f, (5 : SlotId) ∉ ((holding true .held false []).feeder f).held) ∧
      (5 : SlotId) ∈ ((holding true .held false [5]).feeder 3).held ∧
      ((bound .lost).slot 5).status = .lost ∧ idle.activeOrder? 5 = none := by
  refine ⟨fun b g => ⟨rfl, rfl, rfl, (by decide : SlotState.moving ≠ .lost)⟩, fun b g => ⟨rfl, rfl⟩, rfl, rfl, ?_, ?_,
    rfl, rfl⟩ <;> decide +kernel

/-- An announcement of class c by the transporter, standing in section 240. -/
def announcing (c : Byte) : Announcement :=
  ⟨carrier, 1, 1, c, 8000, 1000, 100, 1000, 100, false, ⟨240, 9000⟩, ⟨240, 1000⟩⟩

/-- A stranger listed with a peer record that awaits nothing. -/
def stranger (i : Identity) : Stranger := ⟨i, 1, 1, 0x20, .unaccepted, 0, .fresh⟩

theorem test_meets_AnnouncementsAreJudged :
    (announcing 0x21).ident.maker ≠ 0 ∧ { announcing 0x21 with ident := ⟨0, 1⟩ }.ident.maker = 0 ∧
      (bound .idle).slotOf? carrier = some 5 ∧ idle.slotOf? carrier = none ∧ idle.stranger? carrier = none ∧
      idle.admits (announcing 0x21) = true ∧ idle.emptySlot? = some 0 ∧
      (let p : P60 := { idle with strangers := [stranger carrier] }
      p.slotOf? carrier = none ∧ (p.stranger? carrier).isSome ∧ (p.strangers.map (·.ident)).Nodup) ∧
      (announcing 0x20).cls ≠ 0x21 ∧
      (let p : P60 := { idle with
        slots := Vector.replicate 6 { slot6 .idle with ident := some ⟨1, 1⟩ }
        strangers := ([1, 2, 3, 4, 5, 6, 7] : List Word).map (fun n => stranger ⟨1, n⟩) }
      p.slotOf? carrier = none ∧ p.emptySlot? = none ∧ p.stranger? carrier = none ∧
        p.admits (announcing 0x21) = true ∧ p.strangers.length < 8 ∧ (p.strangers.map (·.ident)).Nodup) ∧
      (let p : P60 := { idle with
        strangers := ([1, 2, 3, 4, 5, 6, 7, 8] : List Word).map (fun n => stranger ⟨1, n⟩) }
      8 ≤ p.strangers.length ∧ p.stranger? carrier = none ∧ (p.strangers.map (·.ident)).Nodup) := by
  decide +kernel

/-- The transporter's attempt of tag 7. -/
theorem meets_attempt :
    (bound .idle).attemptOf carrier 7 5 polled ⟨.poll, .poll, 7, 200⟩ := by
  unfold P60.attemptOf; decide +kernel

theorem test_meets_BindingAdoptsAndReconciles :
    ((announcing 0x21).ident.maker ≠ 0 ∧ (bound .idle).slotOf? carrier = some 5) ∧
      (idle.slotOf? carrier = none ∧ idle.stranger? carrier = none ∧ (announcing 0x21).cls = 0x21 ∧
        idle.admits (announcing 0x21) = true ∧ idle.emptySlot? = some 0) ∧
      ((bound .conflict).adoption 5 240 240).isSome ∧ ((bound .conflict).adopt? 5 240 240).isSome ∧
      (bound .conflict).adoption 5 239 240 = none ∧ (bound .conflict).adopt? 5 239 240 = none ∧
      ((bound .conflict).slot 5).status = .conflict ∧ ((bound .idle).slot 5).status ≠ .lost ∧
      (bound .idle).owner? 240 ≠ some (.slot 5) ∧ running.owner? 240 = some (.slot 5) := by decide +kernel

theorem test_meets_PositionReportsAreTakenIn :
    (bound .idle).attemptOf carrier 7 5 polled ⟨.poll, .poll, 7, 200⟩ ∧ idle.liveOrder? 5 = none ∧
      (∃ o, running.liveOrder? 5 = some o ∧ indexIn (running.slot 5).rear.sec.toNat o.route ≠ 0 ∧
        indexIn (running.slot 5).front.sec.toNat o.route ≠ 0) ∧
      ((running.slot 5).progress.order ≠ 0 ∧ (running.slot 5).status ≠ .lost ∧ (running.slot 5).held = false ∧
        ∃ o c, running.activeOrder? 5 = some (o, .running, c)) ∧
      (let p : P60 := { running with orders := [order .fetch (.active .dockLift none)] }
      (∃ o g c, p.activeOrder? 5 = some (o, g, c) ∧ g.isDocking = true) ∧
        (p.slot 5).authority.state = .given ⟨240, 60000, .sectionEnd⟩ ∧
        p.basis 5 { reported 0 with front := ⟨239, 0⟩ } ≠ .curve) ∧
      (∃ a b x, ((bound .idle).slot 5).overlap = some (a, b) ∧ (bound .idle).planSection? a = some x ∧ x.feeder = 3) :=
  ⟨meets_attempt, rfl, ⟨_, rfl, by decide +kernel, by decide +kernel⟩,
    ⟨by decide +kernel, by decide +kernel, rfl, _, _, rfl⟩, ⟨⟨_, _, _, rfl, rfl⟩, rfl, by decide +kernel⟩, 240, 240, _,
    rfl, rfl, rfl⟩

theorem test_meets_CustodyDepartureAndFaultReports :
    (bound .idle).attemptOf carrier 7 5 polled ⟨.poll, .poll, 7, 200⟩ ∧
      ((bound .idle).slot 5).docking.expects .lifted = false ∧ (bound .idle).laden 5 = false ∧
      (bound .idle).liveOrder? 5 = none ∧
      (let p := awaiting (busy .docking (.active .dockLift none)) .lifted
      p.attemptOf carrier 7 5 polled ⟨.poll, .poll, 7, 200⟩ ∧ (p.slot 5).docking.expects .lifted = true ∧
        p.activeOrder? 5 = some (order .fetch (.active .dockLift none), .dockLift, none)) ∧
      (let p := awaiting (busy .docking (.active .dockLower none)) .lowered
      p.attemptOf carrier 7 5 polled ⟨.poll, .poll, 7, 200⟩ ∧ (p.slot 5).docking.expects .lowered = true ∧
        p.activeOrder? 5 = some (order .fetch (.active .dockLower none), .dockLower, none)) := by
  unfold P60.attemptOf; decide +kernel

theorem test_meets_ExchangesOfTheTransporterLink :
    ((bound .idle).attemptOf carrier 7 5 polled ⟨.poll, .poll, 7, 200⟩ ∧ (bound .idle).strangersDistinct ∧
      (∃ t, step (at_ (bound .idle)) = .next t) ∧ (polled.get .poll).map (·.tag) = some 7 ∧
      ((({ polled with poll := none } : Peer).get .poll)).map (·.tag) ≠ some 7) ∧
      (let q : Peer := { Peer.fresh with attempt := some ⟨.standDown, .standDown, 1, 200⟩, failures := 2 }
      let p : P60 := { idle with strangers := [{ stranger carrier with peer := q }] }
      p.slotOf? carrier = none ∧ p.stranger? carrier = some { stranger carrier with peer := q } ∧
        q.attempt = some ⟨.standDown, .standDown, 1, 200⟩ ∧ 2 ≤ q.failures ∧ (p.strangers.map (·.ident)).Nodup) ∧
      (let q : Peer := { Peer.fresh with
        attempt := some ⟨.standDown, .standDown, 1, 200⟩, standDown := some ⟨.standDown, 1, true, none⟩
        poll := some ⟨.poll, 255, false, some 200⟩, lastPoll := some 99900 }
      let p : P60 := { idle with strangers := [{ stranger carrier with peer := q }] }
      p.stranger? carrier = some { stranger carrier with peer := q } ∧ q.failures < 2 ∧
        q.get .standDown = some ⟨.standDown, 1, true, none⟩ ∧ q.get .poll = some ⟨.poll, 255, false, some 200⟩ ∧
        ({ q with standDown := none } : Peer).get .standDown = none ∧
        ({ q with poll := none } : Peer).lastPoll = some 99900) ∧
      ((∀ k p a, ¬ idle.attemptOf carrier 7 k p a) ∧ idle.stranger? carrier = none) ∧
      ((bound .idle).slotOf? carrier = some 5 ∧ ((bound .idle).slot 5).peer = some polled ∧
        polled.failures < 2 ∧ polled.get .poll = some ⟨.poll, 7, true, none⟩ ∧
        ({ polled with poll := none } : Peer).get .poll = none) ∧
      (let q := { polled with failures := 2 }
      let p := (bound .idle).withSlot 5 (fun x => { x with peer := some q })
      p.slotOf? carrier = some 5 ∧ (p.slot 5).peer = some q ∧ 2 ≤ q.failures) ∧
      (let q := { polled with attempt := none, poll := some ⟨.poll, 7, true, some 200⟩ }
      let p := (bound .idle).withSlot 5 (fun x => { x with peer := some q })
      p.slotOf? carrier = some 5 ∧ (p.slot 5).peer = some q ∧ q.get .poll = some ⟨.poll, 7, true, some 200⟩) ∧
      (let q := { polled with attempt := none, poll := none }
      let p := (bound .idle).withSlot 5 (fun x => { x with peer := some q })
      p.slotOf? carrier = some 5 ∧ (p.slot 5).peer = some q ∧ q.lastPoll = some 99900 ∧ q.poll = none ∧
        (p.slot 5).status ≠ .lost) ∧
      ({ idle with allStop := some ⟨1, 100⟩ } : P60).allStop = some ⟨1, 100⟩ := by
  refine ⟨⟨meets_attempt, List.nodup_nil, ⟨_, rfl⟩, rfl, nofun⟩, by decide +kernel, by decide +kernel,
    ⟨fun k p a h => ?_, rfl⟩,
    by decide +kernel, by decide +kernel, by decide +kernel, by decide +kernel, rfl⟩
  have none : idle.slotOf? carrier = none := by decide +kernel
  exact absurd (none.symm.trans h.1) (by simp)

theorem test_meets_ScansJudgeAndDispatchOrders :
    idle.scanDue = false ∧ { idle with scanDue := true }.scanDue = true ∧
    { idle with scanDue := true }.scanning = false ∧
      { idle with scanDue := true, scanning := true }.scanning = true ∧
      { idle with scanning := true }.scanPending = false ∧
      { idle with scanning := true, scanPending := true }.scanPending = true ∧
      (let o := order .fetch .queued
      let p : P60 := (({ busy .idle .queued with
        sections := [⟨1, .free, false, false, .clear, []⟩, owned false] } : P60).setLocation 64 (.pad 160))
      p.orders = [] ++ o :: [] ∧ p.eligible o = true ∧ p.startCheck o = true ∧ p.liveOrder? o.slot = none ∧
        { p with estop := true }.eligible o = false ∧
        { p with sections := idle.sections }.eligible o = true ∧
        { p with sections := idle.sections }.startCheck o = false ∧
        (p.withSlot 5 (fun x => { x with held := true })).liveOrder? o.slot = none) ∧
      ((busy .moving (.active .running none)).liveOrder? 5).isSome := by
  refine ⟨rfl, rfl, rfl, rfl, rfl, rfl, ?_, rfl⟩
  decide +kernel

/-! ## Bytes -/

/-- The ASCII string "123456789". -/
def digits : List Byte := [0x31, 0x32, 0x33, 0x34, 0x35, 0x36, 0x37, 0x38, 0x39]

theorem test_crc16_check_value : crc16 digits = 0x29B1 := by decide +kernel

theorem test_crc32_check_value : crc32 digits = 0xCBF43926 := by decide +kernel

theorem test_reads_a_position :
    readRequest ⟨7, 0x29, [0x01, 0x02, 0x03, 0x04, 0x05]⟩ = .moveOrder 7 0x0102 (.after 0x0405) := by decide +kernel

theorem test_reads_an_acceptance_list :
    readRequest ⟨7, 0x40, [2, 0b101, 9, 8, 0b010, 3]⟩ =
      .setAcceptance 7 [⟨some 9, none, some 8⟩, ⟨none, some 3, none⟩] := by decide +kernel

theorem test_reads_a_batch :
    readRequest ⟨7, 0x28, [1, 1, 0x12, 0x34, 1, 6, 64, 160, 2, 240, 1]⟩ =
      .insertOrders 7 .head [fetch 0x1234] := by decide +kernel

theorem test_isqrt : isqrt 2000000000 = 44721 ∧ isqrt 0 = 0 ∧ isqrt 4294967295 = 65535 := by decide +kernel

/-! ## Small steps -/

/-- The P60 after a command with none waiting, if it answers a next state. -/
def after (c : Instr) (p : P60) : Option P60 :=
  match exec c (at_ p) with
  | .next t => some t.p60
  | _ => none

/-- The reply formed by a request, if it is the only record formed. -/
def replyOf (c : Instr) (p : P60) : Option Request :=
  match (after c p).map (·.opsTx) with
  | some [TxRecord.reply r] => some r
  | _ => none

theorem test_possess : after (.possessSection 1 240) idle = some { idle with
    sections := [⟨1, .free, false, false, .clear, []⟩,
      ⟨240, .reserved ⟨.possession, none, none, 100000, false, false, none⟩ none, false, false, .clear, []⟩]
    opsTx := [.reply ⟨1, 0x98, [0]⟩] } := by decide +kernel

theorem test_possess_twice : replyOf (.possessSection 1 240) (with240 (rec240 (.occupied (held 0)))) =
    some ⟨1, 0x98, [BitVec.ofNat 8 Result.locked.code]⟩ := by decide +kernel

theorem test_query_section : replyOf (.querySection 1 240) (with240 (rec240 (.reserved (held 99999) none))) =
    some ⟨1, 0x9D, [0, 240, 3, 7, 0, 0, 0, 0, 0, 1, 0, 1, 0, 0, 0, 0, 0, 0, 0, 0, 0, 0, 0, 0, 1, 6]⟩ := by
  decide +kernel

theorem test_detector_disturbs_a_free_section :
    (after (.detectorReport 247 7 .occupied) (asking idle 247)).map
        (fun p => (p.sections[1]?.map (·.occ), p.counts.sectionDisturbed, p.opsTx, p.exchange)) =
      some (some .disturbed, 1, [.attention], none) := by decide +kernel

theorem test_throw_done : replyOf (.throwTurnout 1 48 1) idle = some ⟨1, 0xA0, [0, 1]⟩ := by decide +kernel

theorem test_throw_queued :
    (after (.throwTurnout 1 48 2) idle).map (fun p => (p.turnouts.map (·.state), p.commands)) =
      some ([.moving .reverse .one 6000], [(20, .throw .reverse)]) := by
  decide +kernel

theorem test_throw_timer_fails_a_second_time :
    (after (.throwTimerExpiry 48)
        { idle with turnouts := [⟨48, 240, .moving .reverse .one 10, .report .moving, 1⟩] }).map
          (fun p => (p.turnouts.map (·.state), p.counts.turnoutFailed, p.clock)) =
      some ([.failed], 1, 100010) := by decide +kernel

theorem test_insert : (after (.insertOrders 1 .tail [fetch 7]) idle).map
      (fun p => (p.orders.map (fun o => (o.id, o.state)), p.scanning, p.opsTx)) =
    some ([(7, .queued)], true, [.reply ⟨1, 0xA8, [0, 0, 1, 1]⟩]) := by decide +kernel

theorem test_collect : replyOf (.collectFinished 1) (busy .idle .done) =
    some ⟨1, 0xAB, [0, 0, 1, 1, 6, 64, 160, 1, 4, 0, 0, 0, 1, 0, 0, 2, 240, 1, 1, 2]⟩ := by decide +kernel

theorem test_cancel : (after (.cancelOrder 1 1) (busy .idle .queued)).map
      (fun p => (p.orders.map (·.state), p.counts.orderFinished)) = some ([.cancelled], 1) := by decide +kernel

theorem test_lock_pad : (after (.lockPad 1 160) idle).map (fun p => (p.commands, p.opsTx)) =
    some ([(21, .padLock)], [.reply ⟨1, 0xB8, [0]⟩]) := by decide +kernel

theorem test_place_waits_for_its_write :
    (after (.placeTelescope 1 64 (.pad 160)) idle).map (fun p => (p.writes, p.opsTx, p.requests.length)) =
      some ([.place 64 (.pad 160)], [], 1) := by decide +kernel

theorem test_place_is_written :
    (after .nvmWriteComplete { idle with
        writes := [.place 64 (.pad 160)]
        requests := [⟨1, 0x39, [64, 1, 160]⟩] }).map (fun p => (p.location 64, p.opsTx, p.requests)) =
      some (.pad 160, [.reply ⟨1, 0xB9, [0]⟩], []) := by decide +kernel

theorem test_keepalive_unarmed : replyOf (.keepalive 1) idle = some ⟨1, 0x84, [0, 1, 0, 0, 0, 0]⟩ := by
  decide +kernel

theorem test_arm_silence_clamps : replyOf (.armSilence 1 1) idle = some ⟨1, 0x85, [0, 0, 0, 0x03, 0xE8, 2]⟩ := by
  decide +kernel

theorem test_emergency_stop : (after .emergencyStopAsserted (busy .moving (.active .running none))).map
      (fun p => (p.estop, p.out, p.orders.map (·.state))) =
    some (true, [allStopFrame], [.active .stopping (some .estop)]) := by
  decide +kernel

theorem test_third_trip_locks_out :
    (after (.feederOvercurrentAsserted 3) (idle.withFeeder 3 (fun _ => ⟨.enabled, false, 40000, 2, []⟩))).map
        (fun p => (p.feeder 3, p.conds)) =
      some (⟨.lockout, true, 40000, 3, []⟩, [.feederLockout]) := by decide +kernel

theorem test_trip_after_the_window :
    (after (.feederOvercurrentAsserted 3) (idle.withFeeder 3 (fun _ => ⟨.enabled, false, 39999, 2, []⟩))).map
        (fun p => p.feeder 3) = some ⟨.tripped, true, 100000, 1, []⟩ := by decide +kernel

theorem test_wind_holds_a_bound_slot : (after .windHoldAsserted (bound .idle)).map
      (fun p => ((p.slot 5).windHold, (p.slot 0).windHold, p.conds)) =
    some (some .atBoundary, none, [.windHold]) := by decide +kernel

theorem test_announce_binds : (after (.announce (announcing 0x21)) idle).map
      (fun p => ((p.slot 0).ident, (p.slot 0).peer.map (·.lastTag), p.strangers)) =
    some (some carrier, some 1, []) := by decide +kernel

theorem test_announce_of_another_class_is_turned_away : (after (.announce (announcing 0x20)) idle).map
      (fun p => ((p.slot 0).ident, p.out.length, p.strangers.map (·.reason), p.conds)) =
    some (none, 1, [.unaccepted], [.unacceptedTransporter]) := by decide +kernel

theorem test_third_failure_loses_the_slot :
    (after (.transporterReplyTimeout carrier)
        ((bound .idle).withSlot 5 (fun x => { x with peer := some { polled with failures := 2 } }))).map
          (fun p => (p.slot 5).status) = some .lost := by decide +kernel

theorem test_a_foreign_frame_changes_nothing :
    after (.strayTransporterMessage carrier 1 0x55 []) idle = some idle ∧
      after (.fieldFrameNotAReply 1 1 0x55 []) idle = some idle := by decide +kernel

theorem test_a_frame_behind_junk_is_taken :
    (after (.corruptFrame .operations ([0x00, 0xFF] ++ requestFrame 7 0x02 [])) idle).map (·.requests) =
      some [⟨7, 0x02, []⟩] := by decide +kernel

/-- The P60 after a step with no command waiting. -/
def stepped (p : P60) : Option P60 :=
  match step (at_ p) with
  | .next t => some t.p60
  | _ => none

theorem test_idle_ticks : stepped idle = some { idle with clock := 100010 } := by decide +kernel

end Sys2Proof.Tests
end

section
/-! SUPPORT. Release requests, and RELEASE_SECTION through them (R25, R26, R39). -/

namespace Sys2Proof.Machine

/-! ## Release requests -/

/-- A release request of the owner, once the minimum hold has ended (R25, R27). -/
theorem releaseRequest_after_minimumHold {s : P60} {n : Nat} {x : SectionRec} {h : Holding}
    (hx : s.section? n = some x) (hh : x.occ.holding? = some h) (hp : h.releasePending = false)
    (ht : minimumHold ≤ s.elapsed h.since) :
    s.releaseRequest n h.owner = s.releaseNow n := by
  simp [P60.releaseRequest, hx, hh, hp, ht]

/-- A release request of the owner within the minimum hold: the release is pending (R26). -/
theorem releaseRequest_within_minimumHold {s : P60} {n : Nat} {x : SectionRec} {h : Holding}
    (hx : s.section? n = some x) (hh : x.occ.holding? = some h) (hp : h.releasePending = false)
    (ht : s.elapsed h.since < minimumHold) :
    s.releaseRequest n h.owner = s.updSection n (fun r =>
      { r with occ := r.occ.mapHolding (fun h => { h with releasePending := true }) }) := by
  simp [P60.releaseRequest, hx, hh, hp, Nat.not_le.2 ht]

/-! ## RELEASE_SECTION -/

/-- RELEASE_SECTION of an owned section: the owner and the pending flag decide (R39). -/
theorem releaseSection_of_owned {s : P60} {n : Byte} {x : SectionRec} {h : Holding} (r : Request)
    (hx : s.hasSection n x) (hh : x.occ.holding? = some h) :
    releaseSection n.toNat (s.withHead r) =
      if h.owner ≠ .possession then refuse (s.withHead r) .locked []
      else if h.releasePending then accept (s.withHead r) (bFlags [true])
      else accept ((s.withHead r).releaseRequest n.toNat .possession)
        (bFlags [decide (s.elapsed h.since < minimumHold)]) := by
  rw [releaseSection, onSection_of_has r hx]
  cases ho : x.occ with
  | reserved g c | occupied g =>
    rw [ho] at hh
    cases hh
    rfl
  | unproven | free | releasing t | disturbed =>
    rw [ho] at hh
    cases hh

/-- RELEASE_SECTION of a FREE section changes nothing (R39). -/
theorem releaseSection_of_free {s : P60} {n : Byte} {x : SectionRec} (r : Request) (hx : s.hasSection n x)
    (ho : x.occ = .free) :
    releaseSection n.toNat (s.withHead r) = accept (s.withHead r) (bFlags [false]) := by
  rw [releaseSection, onSection_of_has r hx, ho]

/-- RELEASE_SECTION of a section that is neither owned nor FREE is refused (R39). -/
theorem releaseSection_badState {s : P60} {n : Byte} {x : SectionRec} (r : Request) (hx : s.hasSection n x)
    (ho : x.occ = .unproven ∨ x.occ = .disturbed ∨ ∃ t, x.occ = .releasing t) :
    releaseSection n.toNat (s.withHead r) = refuse (s.withHead r) .badState [] := by
  rw [releaseSection, onSection_of_has r hx]
  obtain ho | ho | ⟨t, ho⟩ := ho <;> rw [ho]

/-- RELEASE_SECTION with a tag has the layout of its kind (R194). -/
theorem malformed_releaseSection {tag : Byte} (n : Byte) (ht : tag ≠ 0) :
    Request.malformed ⟨tag, 0x19, [n]⟩ = false :=
  malformed_of_readKind (c := .releaseSection tag n) ht rfl

/-- RELEASE_SECTION accepted in its turn, with nothing owed. -/
theorem serves_releaseSection {s : State} {tag n : Byte} {e : P60} {fields : List Byte} (ht : tag ≠ 0)
    (hr : s.p60.turnOf ⟨tag, 0x19, [n]⟩) (he : e.owed = (s.p60.withHead ⟨tag, 0x19, [n]⟩).owed)
    (hf : releaseSection n.toNat (s.p60.withHead ⟨tag, 0x19, [n]⟩) = accept e fields) :
    s.serves (.releaseSection tag n) ⟨tag, 0x19, [n]⟩ e fields := by
  obtain ⟨htasks, hscan⟩ := owed_none he rfl rfl
  exact serves_of s _ _ (releaseSection n.toNat) e fields rfl hr (by simp) (malformed_releaseSection n ht) hf
    htasks hscan

/-- RELEASE_SECTION refused in its turn. -/
theorem refuses_releaseSection {s : State} {tag n : Byte} {result : Result} {fields : List Byte} (ht : tag ≠ 0)
    (hr : s.p60.turnOf ⟨tag, 0x19, [n]⟩)
    (hf : releaseSection n.toNat (s.p60.withHead ⟨tag, 0x19, [n]⟩) =
      refuse (s.p60.withHead ⟨tag, 0x19, [n]⟩) result fields) :
    s.refuses (.releaseSection tag n) ⟨tag, 0x19, [n]⟩ result fields :=
  refuses_of s _ _ (releaseSection n.toNat) result fields rfl hr (by simp) (malformed_releaseSection n ht) hf

/-- RELEASE_SECTION of a possession whose release is not pending is its owner's release request, with DEFERRED
set within the minimum hold (R39). -/
theorem serves_releaseRequest_of_possession {s : State} {tag n : Byte} {x : SectionRec} {h : Holding}
    (ht : tag ≠ 0) (hr : s.p60.turnOf ⟨tag, 0x19, [n]⟩) (hx : s.p60.hasSection n x)
    (hh : x.occ.holding? = some h) (ho : h.owner = .possession) (hp : h.releasePending = false) :
    s.serves (.releaseSection tag n) ⟨tag, 0x19, [n]⟩
      ((s.p60.withHead ⟨tag, 0x19, [n]⟩).releaseRequest n.toNat h.owner)
      (bFlags [decide (s.p60.elapsed h.since < minimumHold)]) := by
  refine serves_releaseSection ht hr (owed_releaseRequest _ _ _) ?_
  rw [releaseSection_of_owned _ hx hh, if_neg (by simp [ho]), if_neg (by simp [hp]), ho]

/-- Settles O20: the section's record decides, case by case as R39's table does. -/
theorem releaseSectionGivesBackAPossession : Obligations.ReleaseSectionGivesBackAPossession := by
  intro tag n x s ht hr hx
  have hsec : (s.p60.withHead ⟨tag, 0x19, [n]⟩).section? n.toNat = some x := by
    obtain ⟨-, -, -, hsec⟩ := hx
    exact hsec
  refine ⟨fun h hh ho hp (hold : minimumHold ≤ s.p60.elapsed h.since) => ?after,
    fun h hh ho hp (hold : s.p60.elapsed h.since < minimumHold) => ?within,
    fun h hh ho hp => ?pending, fun hfree => ?free, fun k hk => ?slot, fun hbad => ?bad⟩
  case after =>
    have hs := serves_releaseRequest_of_possession ht hr hx hh ho hp
    rw [releaseRequest_after_minimumHold hsec hh hp hold, decide_eq_false (Nat.not_lt.2 hold)] at hs
    exact hs
  case within =>
    have hs := serves_releaseRequest_of_possession ht hr hx hh ho hp
    rw [releaseRequest_within_minimumHold hsec hh hp hold, decide_eq_true hold] at hs
    exact hs
  case pending =>
    refine serves_releaseSection ht hr rfl ?_
    rw [releaseSection_of_owned _ hx hh, if_neg (by simp [ho]), if_pos hp]
    rfl
  case free => exact serves_releaseSection ht hr rfl (releaseSection_of_free _ hx hfree)
  case slot =>
    obtain ⟨h, hh, ho⟩ := Option.map_eq_some_iff.1 hk
    refine refuses_releaseSection ht hr ?_
    rw [releaseSection_of_owned _ hx hh, if_pos (by simp [ho])]
  case bad => exact refuses_releaseSection ht hr (releaseSection_badState _ hx hbad)

end Sys2Proof.Machine
end

section
/-! SUPPORT. QUERY_FIELD and IDENTIFY: the fields of their replies, as R203 and R198 list them. -/

namespace Sys2Proof.Machine

/-! ## The field link's units -/

theorem sinceOr0_eq_getD (s : P60) (t : Option Word) : s.sinceOr0 t = (t.map s.elapsed).getD 0 := by
  cases t with
  | none => rfl
  | some t => rfl

/-- A unit's sweep poll has been sent: the unit is swept, or its sweep's exchange is in flight (R201). -/
theorem sweepSent_iff (s : P60) (u : FieldUnit) :
    s.sweepSent u = true ↔
      u.swept = true ∨ ∃ e, s.exchange = some e ∧ e.sweep = true ∧ e.address = u.address := by
  simp [P60.sweepSent, Option.any_eq_true]

/-- A polled unit whose next poll is not due: the rest of the poll period, once its sweep poll was sent (R201). -/
theorem pollLeft?_of_polled {s : P60} {a : Nat} {u : FieldUnit} {t : Word} (hu : s.unit? a = some u)
    (ht : u.lastPoll = some t) (hd : u.dueSince = none) :
    s.pollLeft? a = if s.sweepSent u then some (pollPeriod - s.elapsed t) else none := by
  simp [P60.pollLeft?, hu, ht, hd]

/-- A unit that was never polled has no poll to wait for. -/
theorem pollLeft?_of_unpolled {s : P60} {a : Nat} {u : FieldUnit} (hu : s.unit? a = some u)
    (ht : u.lastPoll = none) : s.pollLeft? a = none := by
  simp [P60.pollLeft?, hu, ht]

/-- A unit whose poll is due already has none to wait for. -/
theorem pollLeft?_of_due {s : P60} {a : Nat} {u : FieldUnit} {d : Word} (hu : s.unit? a = some u)
    (hd : u.dueSince = some d) : s.pollLeft? a = none := by
  simp [P60.pollLeft?, hu, hd]

/-! ## QUERY_FIELD -/

/-- The counts of QUERY_FIELD's common fields (R203). -/
theorem fieldFields_eq_counts (s : P60) :
    s.fieldFields =
      b1 s.sweep.code ++ b1 s.units.length ++ b1 (s.units.countP (·.swept)) ++
        b1 (s.units.countP (fun u => u.failures == 3)) ++ b1 s.commands.length := by
  simp only [List.countP_eq_length_filter]
  rfl

/-- For an address that the plan does not use every unit field is 0 (R203). -/
theorem unitFields_of_unused {s : P60} {a : Nat} (hu : s.unit? a = none) :
    s.unitFields a = List.replicate 13 (0 : Byte) := by
  simp only [P60.unitFields, hu]
  rfl

theorem unitFields_of_unit {s : P60} {a : Nat} {u : FieldUnit} (hu : s.unit? a = some u) :
    s.unitFields a =
      b1 u.kind.code ++ b1 u.num ++ b1 u.failures ++ bFlags [u.failures == 3] ++
        b4 ((u.lastReply.map s.elapsed).getD 0) ++ b4 ((s.pollLeft? a).getD 0) ++
        b1 (((s.commands.find? (fun e => e.1 == a)).map (fun e => e.2.code)).getD 0) := by
  simp only [P60.unitFields, hu, sinceOr0_eq_getD, FieldUnit.silent]

theorem queryField_of_gt {a : Byte} (s : P60) (ha : 247 < a.toNat) : queryField a s = ⟨.outOfRange, []⟩ :=
  if_pos ha

theorem queryField_of_le {a : Byte} (s : P60) (ha : a.toNat ≤ 247) :
    queryField a s = ⟨.ok, s.fieldFields ++ if a = 0 then [] else s.unitFields a.toNat⟩ :=
  if_neg (Nat.not_lt.2 ha)

/-- What QUERY_FIELD answers does not depend on the request port. -/
theorem queryField_port (a : Byte) (s : P60) (out : List Frame) (requests : List Request) :
    queryField a { s with out := out, requests := requests } = queryField a s := rfl

/-- QUERY_FIELD in its turn is answered from the state as it stands, and changes nothing. -/
theorem exec_queryField_of_turn {s : State} {tag a : Byte} {result : Result} {fields : List Byte} (ht : tag ≠ 0)
    (hr : s.p60.turnOf ⟨tag, 0x06, [a]⟩) (hw : s.p60.transferring = false)
    (hf : queryField a s.p60 = ⟨result, fields⟩) :
    exec (.queryField tag a) s = .next (s.replied ⟨tag, 0x06, [a]⟩ result fields) :=
  query_of_turn s _ (queryField a) hr hw (by simp) (malformed_of_readKind (c := .queryField tag a) ht rfl) result
    fields ((queryField_port a s.p60 _ _).trans hf)

/-- Settles O30: an address above 247 is refused; below it, the common fields, and the unit's field by field. -/
theorem queryFieldReturnsTheLink : Obligations.QueryFieldReturnsTheLink := by
  intro tag address s ht hr hw
  refine ⟨fun hgt => exec_queryField_of_turn ht hr hw (queryField_of_gt _ hgt),
    fun hle => exec_queryField_of_turn ht hr hw ?_⟩
  rw [queryField_of_le _ hle, fieldFields_eq_counts]
  refine congrArg (Answer.ok <| _ ++ ·) (ite_congr rfl (fun _ => rfl) fun _ => ?_)
  cases hu : s.p60.unit? address.toNat with
  | none => exact unitFields_of_unused hu
  | some u =>
    rw [unitFields_of_unit hu]
    congr 1
    · refine congrArg (_ ++ b4 ·) ?_
      cases hp : u.lastPoll with
      | none => rw [pollLeft?_of_unpolled hu hp]; rfl
      | some t =>
        cases hd : u.dueSince with
        | some d => rw [pollLeft?_of_due hu hd]; rfl
        | none =>
          rw [pollLeft?_of_polled hu hp hd, apply_ite (fun o : Option Nat => o.getD 0)]
          exact ite_congr (propext (sweepSent_iff _ _)) (fun _ => rfl) (fun _ => rfl)
    · cases s.p60.commands.find? (fun e => e.1 == address.toNat) with
      | none => rfl
      | some c => rfl

/-! ## IDENTIFY -/

/-- IDENTIFY's reply byte for byte up to the plan id, which the ACTIVE plan gives (R14, R198). -/
theorem identify_eq (s : P60) :
    identify s = ⟨.ok, [0x5A, 0x00, 0x60, Config.firmwareMajor, Config.firmwareMinor] ++
      b4 ((s.plan?.map (fun p => p.id.toNat)).getD 0)⟩ := rfl

/-- Settles O11: IDENTIFY is answered as a query is, with the plan state deciding the id alone. -/
theorem identifyReply : Obligations.IdentifyReply := by
  intro tag s ht hr hw
  refine query_of_turn s _ identify hr hw (by simp) (malformed_of_readKind (c := .identify tag) ht rfl) _ _ ?_
  rw [identify_eq]
  cases hp : s.p60.plan with
  | active plan => simp [P60.plan?, hp]
  | absent | loading header buffer | invalid header received reason index => simp [P60.plan?, hp]

end Sys2Proof.Machine
end
